-- ==== Sys2Proof/Word.lean ====
section
/-!
DEFINITION. The plain bit-vector types of the block: bytes, command words, control-line codes and the 13-valued
micro-operation index.  Every value of this hardware is unsigned (R11).
-/

namespace Sys2Proof

/-- A byte: 8 bits, bit 0 of weight 1 (R11); format BUS8 of R80. -/
abbrev Byte := BitVec 8

/-- A host command word, format CMD17 of R80, bit positions of R81. -/
abbrev CommandWord := BitVec 17

/-- A control-line code `CTL[1:0]`, format CTL2 of R80. -/
abbrev ControlCode := BitVec 2

/-- A legal value of `UPC`.  R30 asks for a type with 13 values, so that 13, 14 and 15 cannot be written down. -/
abbrev MicroIndex := Fin 13

end Sys2Proof
end

