-- ==== Sys2Proof/Config.lean ====
section
/-!
DEFINITION. The configuration record of the block (R7, R8, R9): the compile-time parameters of one instantiation, as plain
data, with the defaults the spec gives.  The three reference configurations of D14 stand at the end.
-/

namespace Sys2Proof

/-- The Pin Assignment Map `PINMAP` (R9): the physical pin identifier of each of the 11 logical signals.  The identifiers
are opaque; they are numbered here. -/
structure PinMap where
  d0 : Nat
  d1 : Nat
  d2 : Nat
  d3 : Nat
  d4 : Nat
  d5 : Nat
  d6 : Nat
  d7 : Nat
  clk : Nat
  ctl1 : Nat
  ctl0 : Nat
  deriving DecidableEq, Repr

/-- A configuration record (R7, R8, R9).  None of it changes after instantiation. -/
structure Config where
  /-- `F_SYS`, system clock frequency in Hz (R7). -/
  fSys : Nat
  /-- `F_OUT`, target frequency of the clock pin in Hz (R7). -/
  fOut : Nat
  /-- `DIVIDER`, the prescaler ratio (R7). -/
  divider : Nat
  /-- `DIVIDER_SET`, the prescaler ratios the timer offers (R7). -/
  dividerSet : List Nat
  /-- `CNT_W`, width in bits of the counter and of the compare register (R7). -/
  cntW : Nat
  /-- `TIMER_CHANNEL`, an opaque identifier that no rule reads (R7). -/
  timerChannel : Nat
  /-- `PINMAP` (R9). -/
  pinMap : PinMap
  /-- `TOL_PPM`, accepted relative frequency error, by default 5 percent (R7). -/
  tolPpm : Nat := 50000
  /-- `T_AS_MIN_NS` (R8). -/
  tAsMinNs : Nat := 300
  /-- `T_AH_MIN_NS` (R8). -/
  tAhMinNs : Nat := 80
  /-- `T_DW_MIN_NS` (R8). -/
  tDwMinNs : Nat := 300
  /-- `T_DW_MAX_NS` (R8). -/
  tDwMaxNs : Nat := 10000
  /-- `T_DH_MIN_NS` (R8). -/
  tDhMinNs : Nat := 80
  /-- `T_AS_USED_NS` (R8). -/
  tAsUsedNs : Nat := 1000
  /-- `T_AH_USED_NS` (R8). -/
  tAhUsedNs : Nat := 1000
  /-- `T_DW_USED_NS` (R8). -/
  tDwUsedNs : Nat := 1000
  /-- `T_DH_USED_NS` (R8). -/
  tDhUsedNs : Nat := 1000
  /-- `CTL_CODE_AL`, the code of address-latch mode (R9). -/
  ctlCodeAl : ControlCode := 0b01#2
  /-- `CTL_CODE_DW`, the code of data-write mode (R9). -/
  ctlCodeDw : ControlCode := 0b10#2
  deriving DecidableEq, Repr

/-- A pin map for the reference configurations: signal number k on pin k.  DESIGN CHOICE (log entry 2): the spec leaves the
pin map open (D21). -/
def PinMap.numbered : PinMap :=
  { d0 := 0, d1 := 1, d2 := 2, d3 := 3, d4 := 4, d5 := 5, d6 := 6, d7 := 7, clk := 8, ctl1 := 9, ctl0 := 10 }

/-- The reference configuration REF16 of D14. -/
def Config.ref16 : Config :=
  { fSys := 16000000, fOut := 2000000, divider := 1, dividerSet := [1, 8, 64, 256, 1024], cntW := 8,
    timerChannel := 0, pinMap := PinMap.numbered }

/-- The reference configuration SMALL1 of D14. -/
def Config.small1 : Config :=
  { fSys := 1000000, fOut := 125000, divider := 1, dividerSet := [1, 2], cntW := 8,
    timerChannel := 0, pinMap := PinMap.numbered }

/-- The reference configuration SMALL2 of D14: SMALL1 with `F_OUT` 62,500 and `DIVIDER` 2. -/
def Config.small2 : Config :=
  { Config.small1 with fOut := 62500, divider := 2 }

end Sys2Proof
end

