-- ==== Sys2Proof/Syntax.lean ====
section
/-!
DEFINITION. The syntax of the block: one constructor of `Instr` per row of the opcode table (2 commands of format CMD17,
4 control-line codes of format CTL2, 13 micro-operations of format UPC4), and the source-level command of R88.
-/

namespace Sys2Proof

/-- Every encoded operation of the block (R89). -/
inductive Instr where
  /-- CONFIGURE_CLOCK, the source's `configure_clock()` (R109). -/
  | configureClock
  /-- WRITE_REGISTER, the source's `write_register(address, value)` (R130). -/
  | writeRegister (address value : Byte)
  /-- CTL_IDLE, the control-line code of the idle mode (R82). -/
  | ctlIdle
  /-- CTL_AL, the control-line code of address-latch mode, the parameter `CTL_CODE_AL` (R82). -/
  | ctlAl
  /-- CTL_DW, the control-line code of data-write mode, the parameter `CTL_CODE_DW` (R82). -/
  | ctlDw
  /-- CTL_RESERVED, the code with both bits set, unused and reserved (R86). -/
  | ctlReserved
  /-- IDLE, `UPC` = 0 (R147). -/
  | idle
  /-- A_DIR, `UPC` = 1 (R135). -/
  | aDir
  /-- A_MODE, `UPC` = 2 (R136). -/
  | aMode
  /-- A_DRIVE, `UPC` = 3 (R137). -/
  | aDrive
  /-- A_SETUP_WAIT, `UPC` = 4 (R138). -/
  | aSetupWait
  /-- A_STROBE, `UPC` = 5 (R139). -/
  | aStrobe
  /-- A_HOLD_WAIT, `UPC` = 6 (R140). -/
  | aHoldWait
  /-- D_DIR, `UPC` = 7 (R141). -/
  | dDir
  /-- D_DRIVE, `UPC` = 8 (R142). -/
  | dDrive
  /-- D_MODE, `UPC` = 9 (R143). -/
  | dMode
  /-- D_WRITE_WAIT, `UPC` = 10 (R144). -/
  | dWriteWait
  /-- D_STROBE, `UPC` = 11 (R145). -/
  | dStrobe
  /-- D_HOLD_WAIT, `UPC` = 12 (R146). -/
  | dHoldWait
  deriving DecidableEq, Repr

/-- One line of a program in the textual form of R88, its literals not yet checked against 0..255. -/
inductive SourceCommand where
  | configureClock
  | writeRegister (address value : Nat)
  deriving DecidableEq, Repr

end Sys2Proof
end

