-- ==== Sys2Proof/WellFormed.lean ====
section
/-!
DEFINITION. Which terms of the syntax may be used.  A source-level literal lies in 0..255 (R88); of the encoded
operations every one but the reserved control-line code may occur (R86).
-/

namespace Sys2Proof

/-- R88: a literal outside 0..255 is refused by the transcriber. -/
def SourceCommand.wellFormed : SourceCommand → Bool
  | .configureClock => true
  | .writeRegister address value => decide (address ≤ 255) && decide (value ≤ 255)

/-- R85: no operand value is invalid.  R86: the one reserved row of the table is the control-line code `0b11`, which the
block never produces. -/
def Instr.wellFormed : Instr → Bool
  | .configureClock => true
  | .writeRegister _ _ => true
  | .ctlIdle => true
  | .ctlAl => true
  | .ctlDw => true
  | .ctlReserved => false
  | .idle => true
  | .aDir => true
  | .aMode => true
  | .aDrive => true
  | .aSetupWait => true
  | .aStrobe => true
  | .aHoldWait => true
  | .dDir => true
  | .dDrive => true
  | .dMode => true
  | .dWriteWait => true
  | .dStrobe => true
  | .dHoldWait => true

end Sys2Proof
end

