-- ==== Sys2Proof/Decode.lean ====
section
/-!
DEFINITION. The four encodings of R80: the decoder of each, total and rejecting by name, the encoder beside it, and
`decodeTableWord`, which reads a word numbered as the opcode table numbers it.
-/

namespace Sys2Proof

/-- The formats of R80 that encode an operation (the fourth, BUS8, is a byte on eight lines: R83). -/
inductive Format where
  | cmd17
  | ctl2
  | upc4
  deriving DecidableEq, Repr

/-- Width of a format in bits (R80). -/
def Format.width : Format → Nat
  | .cmd17 => 17
  | .ctl2 => 2
  | .upc4 => 4

/-- Why a word is no operation. -/
inductive DecodeError where
  /-- A CMD17 word with `op` = 0 and a low field that is not zero (R86). -/
  | reservedCommandWord
  /-- The UPC4 values 13, 14 and 15 (R86). -/
  | unreachableMicroOperation
  /-- The number does not fit the width of its format. -/
  | wordTooWide
  deriving DecidableEq, Repr

/-- Field `op` of CMD17, bit 16 (R81). -/
def CommandWord.op (w : CommandWord) : Bool :=
  w &&& 0x10000#17 = 0x10000#17

/-- Field `address` of CMD17, bits 15:8, taken as is (R81, R85). -/
def CommandWord.address (w : CommandWord) : Byte :=
  w.extractLsb' 8 8

/-- Field `value` of CMD17, bits 7:0, taken as is (R81, R85). -/
def CommandWord.value (w : CommandWord) : Byte :=
  w.extractLsb' 0 8

/-- The CMD17 decoder of R89. -/
def decodeCmd17 (w : CommandWord) : Except DecodeError Instr :=
  if CommandWord.op w then .ok (.writeRegister (CommandWord.address w) (CommandWord.value w))
  else if w = 0 then .ok .configureClock
  else .error .reservedCommandWord

/-- The mode a control-line code stands for (R82), given the two configured codes. -/
def decodeCtl2 (al dw : ControlCode) (code : ControlCode) : Instr :=
  if code = 0 then .ctlIdle
  else if code = al then .ctlAl
  else if code = dw then .ctlDw
  else .ctlReserved

/-- The micro-operation of each legal value of `UPC` (R84). -/
def microOperation (u : MicroIndex) : Instr :=
  match u with
  | 0 => .idle
  | 1 => .aDir
  | 2 => .aMode
  | 3 => .aDrive
  | 4 => .aSetupWait
  | 5 => .aStrobe
  | 6 => .aHoldWait
  | 7 => .dDir
  | 8 => .dDrive
  | 9 => .dMode
  | 10 => .dWriteWait
  | 11 => .dStrobe
  | 12 => .dHoldWait

/-- The UPC4 decoder: the 13 indices of R84, and 13, 14, 15 rejected (R86). -/
def decodeUpc4 (code : BitVec 4) : Except DecodeError Instr :=
  if h : code.toNat < 13 then .ok (microOperation ⟨code.toNat, h⟩)
  else .error .unreachableMicroOperation

/-- A word in one of the three formats. -/
structure Encoded where
  format : Format
  word : Nat
  deriving DecidableEq, Repr

/-- Decode a word of a given format, at given codes for the two active control-line modes. -/
def decodeWith (al dw : ControlCode) (e : Encoded) : Except DecodeError Instr :=
  if e.word < 2 ^ e.format.width then
    match e.format with
    | .cmd17 => decodeCmd17 (BitVec.ofNat 17 e.word)
    | .ctl2 => .ok (decodeCtl2 al dw (BitVec.ofNat 2 e.word))
    | .upc4 => decodeUpc4 (BitVec.ofNat 4 e.word)
  else .error .wordTooWide

/-- Decode at the default codes of R82, those of the opcode table. -/
def decode (e : Encoded) : Except DecodeError Instr :=
  decodeWith 0b01#2 0b10#2 e

/-- The word of WRITE_REGISTER(a, v): `0x10000 + 256 * a + v` (R81). -/
def writeRegisterWord (address value : Byte) : CommandWord :=
  BitVec.ofNat 17 (0x10000 + 256 * address.toNat + value.toNat)

/-- The single word of CONFIGURE_CLOCK (R81). -/
def configureClockWord : CommandWord := 0x00000#17

/-- The encoder (R81, R82, R84), at given codes for the two active control-line modes. -/
def encodeWith (al dw : ControlCode) : Instr → Encoded
  | .configureClock => ⟨.cmd17, configureClockWord.toNat⟩
  | .writeRegister address value => ⟨.cmd17, (writeRegisterWord address value).toNat⟩
  | .ctlIdle => ⟨.ctl2, 0b00⟩
  | .ctlAl => ⟨.ctl2, al.toNat⟩
  | .ctlDw => ⟨.ctl2, dw.toNat⟩
  | .ctlReserved => ⟨.ctl2, 0b11⟩
  | .idle => ⟨.upc4, 0⟩
  | .aDir => ⟨.upc4, 1⟩
  | .aMode => ⟨.upc4, 2⟩
  | .aDrive => ⟨.upc4, 3⟩
  | .aSetupWait => ⟨.upc4, 4⟩
  | .aStrobe => ⟨.upc4, 5⟩
  | .aHoldWait => ⟨.upc4, 6⟩
  | .dDir => ⟨.upc4, 7⟩
  | .dDrive => ⟨.upc4, 8⟩
  | .dMode => ⟨.upc4, 9⟩
  | .dWriteWait => ⟨.upc4, 10⟩
  | .dStrobe => ⟨.upc4, 11⟩
  | .dHoldWait => ⟨.upc4, 12⟩

/-- Encode at the default codes of R82, those of the opcode table. -/
def encode (i : Instr) : Encoded :=
  encodeWith 0b01#2 0b10#2 i

/-- The format that a row of `nbits` bits belongs to.  Rounded up to whole bytes, the 2 bits of CTL2 and the 4 bits of UPC4
are both 8: DESIGN CHOICE (log entry 12), 8 bits read as UPC4, the format that selects what a tick executes. -/
def formatOfBits (nbits : Nat) : Option Format :=
  if nbits = 17 ∨ nbits = 24 ∨ nbits = 32 then some .cmd17
  else if nbits = 4 ∨ nbits = 8 then some .upc4
  else if nbits = 2 then some .ctl2
  else none

/-- The operation of an opcode-table word of `nbits` bits. -/
def decodeTableWord (nbits w : Nat) : Option Instr :=
  match formatOfBits nbits with
  | some f =>
    match decode ⟨f, w⟩ with
    | .ok i => some i
    | .error _ => none
  | none => none

end Sys2Proof
end

