-- ==== Sys2Proof/Machine/Parameters.lean ====
section
/-!
DEFINITION. What the spec derives from the configuration record: the compare threshold (R101), the frequency produced
(R102), the delay counts in ticks (R133), register widths (R20), the latency of a write (R154), and when a record is valid
(R10, R103, R134).
-/

namespace Sys2Proof

/-- Bits needed to hold every value up to `n`. -/
def bitsFor (n : Nat) : Nat :=
  Nat.log2 n + 1

/-- Nanoseconds in a second. -/
def nsPerSecond : Nat := 1000000000

/-- `ROUNDED` of R101: the quotient `F_SYS / (2 * DIVIDER * F_OUT)` formed exactly and rounded once, a tie going up. -/
def Config.rounded (c : Config) : Nat :=
  (c.fSys + c.divider * c.fOut) / (2 * c.divider * c.fOut)

/-- `THRESHOLD` of R101.  It is -1 when `ROUNDED` is 0, which makes the record invalid; it is not clamped. -/
def Config.threshold (c : Config) : Int :=
  (c.rounded : Int) - 1

/-- `THRESHOLD` as the value of the compare register; at a valid record it is not negative (R103 (c)). -/
def Config.compareValue (c : Config) : Nat :=
  c.threshold.toNat

/-- The half period `H` of R112 in ticks. -/
def Config.halfPeriod (c : Config) : Nat :=
  (c.compareValue + 1) * c.divider

/-- Denominator of `F_ACTUAL = F_SYS / (2 * DIVIDER * (THRESHOLD + 1))`, the frequency produced (R102): one period of `CLK`
in ticks. -/
def Config.clockPeriod (c : Config) : Nat :=
  2 * c.divider * (c.compareValue + 1)

/-- A used delay in ticks: `max(1, ceil(T * F_SYS / 10^9))`, in integers (R133).  The summands stand in this order so that
the kernel never counts down from 10^9; `ticksOf_eq` gives the rule's own order. -/
def Config.ticksOf (c : Config) (ns : Nat) : Nat :=
  max 1 ((nsPerSecond - 1 + ns * c.fSys) / nsPerSecond)

/-- `N_AS` (R133). -/
def Config.nAs (c : Config) : Nat := c.ticksOf c.tAsUsedNs

/-- `N_AH` (R133). -/
def Config.nAh (c : Config) : Nat := c.ticksOf c.tAhUsedNs

/-- `N_DW` (R133). -/
def Config.nDw (c : Config) : Nat := c.ticksOf c.tDwUsedNs

/-- `N_DH` (R133). -/
def Config.nDh (c : Config) : Nat := c.ticksOf c.tDhUsedNs

/-- `DLY_W`: the least width that holds the largest of the four delay counts (R20). -/
def Config.dlyW (c : Config) : Nat :=
  bitsFor (max (max c.nAs c.nAh) (max c.nDw c.nDh))

/-- The width of `CG_DIV` and `CG_PRE`: enough bits for the largest member of `DIVIDER_SET` (R20). -/
def Config.divW (c : Config) : Nat :=
  bitsFor (c.dividerSet.foldr max 0)

/-- `L` of R154: ticks from the accepting tick of a write to the first state with `UPC` = 0 again. -/
def Config.writeLatency (c : Config) : Nat :=
  9 + c.nAs + c.nAh + c.nDw + c.nDh

/-- R103 (a): the three positive parameters. -/
abbrev Config.ClockPositive (c : Config) : Prop :=
  1 ≤ c.fSys ∧ 1 ≤ c.fOut ∧ 1 ≤ c.cntW

/-- R103 (b): the prescaler ratio is one the timer offers. -/
abbrev Config.DividerOffered (c : Config) : Prop :=
  c.divider ∈ c.dividerSet ∧ 1 ≤ c.divider

/-- R103 (c): the threshold fits the compare register. -/
abbrev Config.ThresholdInRange (c : Config) : Prop :=
  0 ≤ c.threshold ∧ c.threshold ≤ 2 ^ c.cntW - 1

/-- R103 (d): the frequency error is within tolerance, tested in integers. -/
abbrev Config.FrequencyInTolerance (c : Config) : Prop :=
  (((c.fSys : Int) - 2 * c.divider * (c.threshold + 1) * c.fOut).natAbs : Int) * 1000000
    ≤ c.tolPpm * (2 * c.divider * (c.threshold + 1) * c.fOut)

/-- `ValidClockConfig` (R103). -/
abbrev Config.ValidClock (c : Config) : Prop :=
  c.ClockPositive ∧ c.DividerOffered ∧ c.ThresholdInRange ∧ c.FrequencyInTolerance

/-- R134 (a): each used delay is at least the target chip's minimum. -/
abbrev Config.DelaysLongEnough (c : Config) : Prop :=
  c.tAsMinNs ≤ c.tAsUsedNs ∧ c.tAhMinNs ≤ c.tAhUsedNs ∧ c.tDwMinNs ≤ c.tDwUsedNs ∧ c.tDhMinNs ≤ c.tDhUsedNs

/-- R134 (b): the data-write mode, asserted for `N_DW + 1` ticks, is never asserted longer than the maximum. -/
abbrev Config.DataWriteShortEnough (c : Config) : Prop :=
  (c.nDw + 1) * nsPerSecond ≤ c.tDwMaxNs * c.fSys

/-- `ValidDelayConfig` (R134). -/
abbrev Config.ValidDelay (c : Config) : Prop :=
  c.DelaysLongEnough ∧ c.DataWriteShortEnough ∧ c.tDwMinNs ≤ c.tDwMaxNs

/-- The 11 physical pins, in the order of the map. -/
def PinMap.pins (m : PinMap) : List Nat :=
  [m.d0, m.d1, m.d2, m.d3, m.d4, m.d5, m.d6, m.d7, m.clk, m.ctl1, m.ctl0]

/-- R9: the map is injective, no two signals share a pin. -/
abbrev PinMap.Injective (m : PinMap) : Prop :=
  m.pins.Nodup

/-- R10: the two codes are the two distinct codes of the set `0b01`, `0b10`. -/
abbrev Config.ValidCodes (c : Config) : Prop :=
  (c.ctlCodeAl = 0b01#2 ∧ c.ctlCodeDw = 0b10#2) ∨ (c.ctlCodeAl = 0b10#2 ∧ c.ctlCodeDw = 0b01#2)

/-- The test of a configuration record (R10). -/
def Config.valid (c : Config) : Bool :=
  decide (c.ValidClock ∧ c.ValidDelay ∧ c.pinMap.Injective ∧ c.ValidCodes)

/-- When a configuration record is valid (R10). -/
abbrev Config.Valid (c : Config) : Prop :=
  c.valid = true

end Sys2Proof
end

