-- ==== Sys2Proof/Machine/State.lean ====
section
/-!
DEFINITION. The whole state of the block (R20): the elements of the Bus Transactor and of the Clock Generator, each owned by
exactly one of the two (R3), the mark `REFUSED`, and three fields of the model: the configuration record of this
instantiation, what the host will present, and the levels of the `RESET` input.  The reset state is R50's.
-/

namespace Sys2Proof.Machine

/-- `BUS_DIR` (R25). -/
inductive BusDirection where
  /-- 0: the 8 data pins are not driven. -/
  | input
  /-- 1: the block drives the 8 data pins. -/
  | driver
  deriving DecidableEq, Repr

/-- `CG_MODE` (R35). -/
inductive ClockMode where
  /-- 0: a compare match neither clears the counter nor toggles the output. -/
  | off
  /-- 1: toggle on compare match, with clear on match. -/
  | toggleOnMatch
  deriving DecidableEq, Repr

/-- The state elements owned by the Bus Transactor (R20). -/
structure BusTransactor where
  /-- `UPC`, the sequencer counter (R30). -/
  upc : MicroIndex
  /-- `AREG`, the latched address operand (R22). -/
  areg : Byte
  /-- `VREG`, the latched data operand (R23). -/
  vreg : Byte
  /-- `BUS_OUT`, the data-bus output latch (R24). -/
  busOut : Byte
  /-- `BUS_DIR`, the bus-direction state (R25). -/
  busDir : BusDirection
  /-- `CTL`, the control-line mode as its code (R26). -/
  ctl : ControlCode
  /-- `DLY`, the delay down-counter, of `DLY_W` bits (R27). -/
  dly : Nat
  deriving DecidableEq, Repr

/-- The state elements owned by the Clock Generator (R20). -/
structure ClockGenerator where
  /-- `CLK_OE`, the drive enable of the clock pin (R34). -/
  clkOe : Bool
  /-- `CG_MODE`, the waveform-generation mode (R35). -/
  mode : ClockMode
  /-- `CG_DIV`, the selected prescaler ratio, 0 = stopped (R36). -/
  div : Nat
  /-- `CG_CMP`, the compare threshold, of `CNT_W` bits (R37). -/
  cmp : Nat
  /-- `CG_PRE`, the prescaler counter, as wide as `CG_DIV` (R40). -/
  pre : Nat
  /-- `CG_CNT`, the timer counter, of `CNT_W` bits (R40). -/
  cnt : Nat
  /-- `CLK_Q`, the clock output flop (R40). -/
  clkQ : Bool
  deriving DecidableEq, Repr

/-- What the host does next at the command port (R208). -/
inductive HostMove where
  /-- `cmd_valid` is 1 with this word on every tick until the word is accepted (R157). -/
  | present (word : CommandWord)
  /-- `cmd_valid` is 0 for one tick. -/
  | rest
  deriving DecidableEq, Repr

/-- The state at the start of a tick. -/
structure State where
  /-- The configuration record of this instantiation (R7, R8, R9), which nothing changes. -/
  cfg : Config
  /-- The Bus Transactor's elements. -/
  bt : BusTransactor
  /-- The Clock Generator's elements. -/
  cg : ClockGenerator
  /-- `REFUSED`, the sticky mark that an unsupported situation has occurred (R42). -/
  refused : Bool
  /-- The host's moves to come, the next one first; when none is left it presents nothing (R17, R208). -/
  host : List HostMove
  /-- Whether `RESET` is asserted, this tick's level first; when none is left it is released (R190). -/
  resetLine : List Bool
  deriving DecidableEq, Repr

/-- There is no fault: the block raises nothing, records no error and reports none (R170).  So the type has no constructor,
which is exact: no step of the model can end in a fault. -/
inductive Fault where
  deriving DecidableEq, Repr

/-- Why the model gives a step no meaning. -/
inductive Refusal where
  /-- An instruction without a meaning in this model, named as the opcode table names it.  No arm of this model raises it;
  safe, since the model stops. -/
  | notModelled (mnemonic : String)
  /-- Raised by a step of a machine whose configuration record is not valid: R10, "an invalid one is refused, not run".
  Safe, since the model stops. -/
  | invalidConfiguration
  /-- Raised by CTL_RESERVED alone: the code with both bits set is unused and reserved, and R86 says there is no behaviour to
  define for it.  Safe, since the model stops. -/
  | reservedControlCode
  deriving DecidableEq, Repr

/-- The Bus Transactor after reset (R50). -/
def BusTransactor.reset : BusTransactor :=
  { upc := 0, areg := 0x00#8, vreg := 0x00#8, busOut := 0x00#8, busDir := .input, ctl := 0b00#2, dly := 0 }

/-- The Clock Generator after reset (R50). -/
def ClockGenerator.reset : ClockGenerator :=
  { clkOe := false, mode := .off, div := 0, cmp := 0, pre := 0, cnt := 0, clkQ := false }

/-- The reset state of the machine instantiated at the record `c` (R50), with a host that presents nothing and `RESET`
released. -/
def State.resetOf (c : Config) : State :=
  { cfg := c, bt := BusTransactor.reset, cg := ClockGenerator.reset, refused := false, host := [], resetLine := [] }

/-- The reset state of one instantiation, the reference configuration REF16.  DESIGN CHOICE (log entry 2): the spec leaves
the clock parameters and the pin map open (D14, D21); every statement is made over `State.resetOf c`, for any record `c`. -/
def State.reset : State :=
  State.resetOf Config.ref16

end Sys2Proof.Machine
end

