-- ==== Sys2Proof/Machine/Ops.lean ====
section
/-!
DEFINITION. The named operations the meanings are built from: register updates of the Bus Transactor, the configuration of
the Clock Generator and CG_TICK, the mark `REFUSED`, and reset.

There is no memory (R60) and there are no exceptions: no trap entry, no saved state, no return (R170, R175, R176).  The one
recovery is reset, `State.takeReset`.
-/

namespace Sys2Proof.Machine

/-! ### Bus Transactor -/

/-- `UPC <- u` (R30). -/
def BusTransactor.goto (u : MicroIndex) (b : BusTransactor) : BusTransactor :=
  { b with upc := u }

/-- `AREG <- a`, `VREG <- v`: the operands latched on acceptance (R131). -/
def BusTransactor.latchOperands (a v : Byte) (b : BusTransactor) : BusTransactor :=
  { b with areg := a, vreg := v }

/-- `BUS_DIR <- 1` (R25). -/
def BusTransactor.becomeDriver (b : BusTransactor) : BusTransactor :=
  { b with busDir := .driver }

/-- `BUS_OUT <- byte`, all 8 bits in one tick (R24). -/
def BusTransactor.putByte (byte : Byte) (b : BusTransactor) : BusTransactor :=
  { b with busOut := byte }

/-- `CTL <- code`, both bits in one tick (R26). -/
def BusTransactor.assertCode (code : ControlCode) (b : BusTransactor) : BusTransactor :=
  { b with ctl := code }

/-- `DLY <- n`, the load before a wait (R132). -/
def BusTransactor.loadDelay (n : Nat) (b : BusTransactor) : BusTransactor :=
  { b with dly := n }

/-- `DLY - 1` at the width of `DLY`.  From 0, which no wait is entered with, the register wraps: DEDUCED (log entry 5). -/
def delayPred (c : Config) (d : Nat) : Nat :=
  (d + 2 ^ c.dlyW - 1) % 2 ^ c.dlyW

/-- One tick of a wait micro-operation that leaves to `after` (R132). -/
def BusTransactor.waitTick (c : Config) (after : MicroIndex) (b : BusTransactor) : BusTransactor :=
  { b with upc := if b.dly = 1 then after else b.upc, dly := delayPred c b.dly }

/-! ### Clock Generator -/

/-- The writes of CONFIGURE_CLOCK; `CLK_Q` keeps its value (R109). -/
def ClockGenerator.configure (c : Config) (g : ClockGenerator) : ClockGenerator :=
  { g with clkOe := true, mode := .toggleOnMatch, div := c.divider, cmp := c.compareValue, pre := 0, cnt := 0 }

/-- `(CG_CNT + 1) mod 2^CNT_W` (R104). -/
def countSucc (c : Config) (n : Nat) : Nat :=
  (n + 1) % 2 ^ c.cntW

/-- `CG_PRE + 1` at the width of `CG_PRE`.  No state with `CG_PRE < CG_DIV` reaches the wrap: DEDUCED (log entry 5). -/
def prescalerSucc (c : Config) (n : Nat) : Nat :=
  (n + 1) % 2 ^ c.divW

/-- A timer tick: a clock is selected and the prescaler wraps (R107). -/
abbrev ClockGenerator.TimerTick (g : ClockGenerator) : Prop :=
  g.div ≠ 0 ∧ g.pre = g.div - 1

/-- A compare match: a timer tick on which the counter equals the threshold (R107). -/
abbrev ClockGenerator.CompareMatch (g : ClockGenerator) : Prop :=
  g.TimerTick ∧ g.cnt = g.cmp

/-- CG_TICK, which the Clock Generator performs on every tick (R105, R106). -/
def ClockGenerator.tick (c : Config) (g : ClockGenerator) : ClockGenerator :=
  if g.div ≠ 0 then
    if g.pre = g.div - 1 then
      if g.cnt = g.cmp then
        match g.mode with
        | .toggleOnMatch => { g with pre := 0, cnt := 0, clkQ := !g.clkQ }
        | .off => { g with pre := 0, cnt := countSucc c g.cnt }
      else { g with pre := 0, cnt := countSucc c g.cnt }
    else { g with pre := prescalerSucc c g.pre }
  else g

/-! ### The whole state -/

/-- Apply an update of the Bus Transactor. -/
def State.onBt (f : BusTransactor → BusTransactor) (s : State) : State :=
  { s with bt := f s.bt }

/-- Apply an update of the Clock Generator. -/
def State.onCg (f : ClockGenerator → ClockGenerator) (s : State) : State :=
  { s with cg := f s.cg }

/-- `REFUSED <- 1` (R42). -/
def State.markRefused (s : State) : State :=
  { s with refused := true }

/-- CG_TICK on the whole state. -/
def State.clockTick (s : State) : State :=
  s.onCg (ClockGenerator.tick s.cfg)

/-! ### The host's and the reset input's own progress -/

/-- A host's moves after a tick on which no command was accepted: a rest is over, a presented command stays presented
(R157). -/
def holdMoves : List HostMove → List HostMove
  | .rest :: later => later
  | moves => moves

/-- A host's moves after a tick on which the port accepts what is presented (R208). -/
def takeMove : List HostMove → List HostMove
  | _ :: later => later
  | [] => []

/-- Whether `RESET` is asserted during this tick (R190). -/
def State.resetAsserted (s : State) : Bool :=
  s.resetLine.headD false

/-- A tick with `RESET` asserted: the next state is the reset state, whatever the state and the presented command were, and
no command is accepted (R190, R191, R192). -/
def State.takeReset (s : State) : State :=
  { State.resetOf s.cfg with host := holdMoves s.host, resetLine := s.resetLine.tail }

end Sys2Proof.Machine
end

