-- ==== Sys2Proof/Machine/Flags.lean ====
section
/-!
DEFINITION. What is derived from the state and not stored: the status values of R32 (the block has no condition codes), the
named state of R31, and the condition of each of the 11 pins (R43).
-/

namespace Sys2Proof.Machine

/-- `BUSY` (R32). -/
def State.busy (s : State) : Bool :=
  s.bt.upc ≠ 0

/-- `READY`, the command port's ready signal (R32, R208). -/
def State.ready (s : State) : Bool :=
  s.bt.upc = 0

/-- `CONFIGURED` (R32). -/
def State.configured (s : State) : Bool :=
  s.cg.mode = .toggleOnMatch

/-- The source's per-call state machine (R31). -/
inductive NamedState where
  | idle
  | addressSetup
  | addressLatched
  | dataSetup
  | dataLatched
  deriving DecidableEq, Repr

/-- The named state as a function of `UPC` (R31). -/
def namedState (u : MicroIndex) : NamedState :=
  if u = 0 then .idle
  else if u ≤ 5 then .addressSetup
  else if u = 6 then .addressLatched
  else if u ≤ 11 then .dataSetup
  else .dataLatched

/-- The condition of a pin (R13). -/
inductive PinLevel where
  | low
  | high
  /-- `Z`: not driven by this block. -/
  | undriven
  deriving DecidableEq, Repr

/-- A pin driven at the level of a bit; logic 1 is the set level (R13). -/
def PinLevel.driven (bit : Bool) : PinLevel :=
  if bit then .high else .low

/-- The 11 logical signals (R9). -/
inductive Signal where
  | d (line : Fin 8)
  | clk
  | ctl1
  | ctl0
  deriving DecidableEq, Repr

/-- The condition of a signal's pin (R43).  Line `D[i]` carries bit i (R64). -/
def State.pin (s : State) : Signal → PinLevel
  | .d line =>
    match s.bt.busDir with
    | .driver => PinLevel.driven (s.bt.busOut.getLsbD line)
    | .input => .undriven
  | .clk => if s.cg.clkOe then PinLevel.driven s.cg.clkQ else .undriven
  | .ctl1 => PinLevel.driven (s.bt.ctl.getLsbD 1)
  | .ctl0 => PinLevel.driven (s.bt.ctl.getLsbD 0)

/-- The byte on the data pins, if the block drives them (R43, R83). -/
def State.dataPins (s : State) : Option Byte :=
  match s.bt.busDir with
  | .driver => some s.bt.busOut
  | .input => none

/-- The physical pin of a signal (R9, R43). -/
def pinOf (m : PinMap) : Signal → Nat
  | .d 0 => m.d0
  | .d 1 => m.d1
  | .d 2 => m.d2
  | .d 3 => m.d3
  | .d 4 => m.d4
  | .d 5 => m.d5
  | .d 6 => m.d6
  | .d 7 => m.d7
  | .clk => m.clk
  | .ctl1 => m.ctl1
  | .ctl0 => m.ctl0

/-- All the logical signals (R43). -/
def Signal.all : List Signal :=
  [.d 0, .d 1, .d 2, .d 3, .d 4, .d 5, .d 6, .d 7, .clk, .ctl1, .ctl0]

/-- What is seen on a physical pin of the package: the condition of the signal mapped to it, if one is (R43). -/
def State.physicalPin (s : State) (pin : Nat) : Option PinLevel :=
  (Signal.all.find? fun sig => pinOf s.cfg.pinMap sig = pin).map s.pin

end Sys2Proof.Machine
end

