-- ==== Sys2Proof/Machine/Operands.lean ====
section
/-!
DEFINITION. What a micro-operation reads: the byte, the code and the delay counts of each phase of a bus write (R62, R66).
The two operands of the command set are the bytes of WRITE_REGISTER, taken from their fields as they are (R85); there is no
register operand, no immediate, no addressing mode and no memory operand (R21, R85, R160).
-/

namespace Sys2Proof.Machine

/-- The two phases of a transaction (R61, R62). -/
inductive Phase where
  | address
  | data
  deriving DecidableEq, Repr

/-- The byte a phase puts on the data pins: `AREG` or `VREG` (R22, R23). -/
def Phase.byte (p : Phase) (b : BusTransactor) : Byte :=
  match p with
  | .address => b.areg
  | .data => b.vreg

/-- The control-line code of a phase (R62, R82). -/
def Phase.code (p : Phase) (c : Config) : ControlCode :=
  match p with
  | .address => c.ctlCodeAl
  | .data => c.ctlCodeDw

/-- The ticks waited before a phase's strobe: `N_AS` or `N_DW` (R133). -/
def Phase.setupTicks (p : Phase) (c : Config) : Nat :=
  match p with
  | .address => c.nAs
  | .data => c.nDw

/-- The ticks waited after a phase's strobe: `N_AH` or `N_DH` (R133). -/
def Phase.holdTicks (p : Phase) (c : Config) : Nat :=
  match p with
  | .address => c.nAh
  | .data => c.nDh

/-- The idle code of the control lines, the all-zero code (R82). -/
def idleCode : ControlCode := 0b00#2

end Sys2Proof.Machine
end

