-- ==== Sys2Proof/Machine/Commands.lean ====
section
/-!
DEFINITION. The two host commands.  Each is accepted only when `READY`; presented while a write is in progress it has no
effect on any state (R131, R157, R208).
-/

namespace Sys2Proof.Machine

open Host

/-- Acceptance of a command: its effect when `READY`, else none (R131, R157). -/
def State.accept (s : State) (effect : State → State) : State :=
  if s.ready then effect s else s

/-- CONFIGURE_CLOCK accepted: a first configuration (R109), or the refused second one, which sets the mark and changes
nothing else (R110). -/
def State.configureClock (s : State) : State :=
  match s.cg.mode with
  | .off => s.onCg (ClockGenerator.configure s.cfg)
  | .toggleOnMatch => s.markRefused

/-- WRITE_REGISTER accepted: the operands are latched and the sequencer starts; no pin changes (R131). -/
def State.startWrite (address value : Byte) (s : State) : State :=
  s.onBt fun b => (b.latchOperands address value).goto 1

/-- CONFIGURE_CLOCK (R109, R110). -/
def execConfigureClock (s : State) : Outcome State Fault Refusal :=
  .next (s.accept State.configureClock)

/-- WRITE_REGISTER (R130, R131). -/
def execWriteRegister (address value : Byte) (s : State) : Outcome State Fault Refusal :=
  .next (s.accept (State.startWrite address value))

end Sys2Proof.Machine
end

