-- ==== Sys2Proof/Machine/ControlLines.lean ====
section
/-!
DEFINITION. The control-line codes (R82): each names the mode the Bus Transactor puts on `CTL1`, `CTL0`.  Its effect is the
write of `CTL`, which the micro-operations A_MODE, A_STROBE, D_MODE and D_STROBE perform (R136, R139, R143, R145).
-/

namespace Sys2Proof.Machine

open Host

/-- The control lines carry a code; the one effect of a CTL2 operation (R26, R82).  DEDUCED (log entry 6). -/
def State.driveCode (code : ControlCode) (s : State) : State :=
  s.onBt (BusTransactor.assertCode code)

/-- CTL_IDLE (R82): the all-zero code on the control lines. -/
def execCtlIdle (s : State) : Outcome State Fault Refusal :=
  .next (s.driveCode idleCode)

/-- CTL_AL (R82): the configured code of address-latch mode on the control lines. -/
def execCtlAl (s : State) : Outcome State Fault Refusal :=
  .next (s.driveCode (Phase.address.code s.cfg))

/-- CTL_DW (R82): the configured code of data-write mode on the control lines. -/
def execCtlDw (s : State) : Outcome State Fault Refusal :=
  .next (s.driveCode (Phase.data.code s.cfg))

/-- CTL_RESERVED (R86): unused and reserved, never driven, with no behaviour to define for it. -/
def execCtlReserved (_s : State) : Outcome State Fault Refusal :=
  .refused .reservedControlCode

end Sys2Proof.Machine
end

