-- ==== Sys2Proof/Machine/Sequencer.lean ====
section
/-!
DEFINITION. The 13 micro-operations of the Bus Transactor (R135 to R147).  The address phase asserts the mode and then drives
the byte; the data phase drives the byte and then asserts the mode (conflict C3).
-/

namespace Sys2Proof.Machine

open Host

/-! ### Shared operations -/

/-- Become the driver of the bus, then go on (R135, R141). -/
def State.takeBus (after : MicroIndex) (s : State) : State :=
  s.onBt fun b => b.becomeDriver.goto after

/-- Assert a phase's mode on the control lines, then go on (R136, R143). -/
def State.assertMode (p : Phase) (after : MicroIndex) (s : State) : State :=
  s.onBt fun b => (b.assertCode (p.code s.cfg)).goto after

/-- Drive a phase's byte onto the data pins, then go on (R137, R142). -/
def State.driveByte (p : Phase) (after : MicroIndex) (s : State) : State :=
  s.onBt fun b => (b.putByte (p.byte b)).goto after

/-- Load `DLY` for the wait that follows (R132). -/
def State.loadDelay (n : Nat) (s : State) : State :=
  s.onBt (BusTransactor.loadDelay n)

/-- The strobe: return the control lines to idle, load the hold delay, go on (R139, R145). -/
def State.strobe (p : Phase) (after : MicroIndex) (s : State) : State :=
  (s.onBt fun b => (b.assertCode idleCode).goto after).loadDelay (p.holdTicks s.cfg)

/-- One tick of a wait that leaves to `after` (R132). -/
def State.waitTick (after : MicroIndex) (s : State) : State :=
  s.onBt (BusTransactor.waitTick s.cfg after)

/-! ### Rest -/

/-- IDLE, `UPC` = 0: the Bus Transactor changes nothing (R147). -/
def execIdle (s : State) : Outcome State Fault Refusal :=
  .next s

/-! ### Address phase -/

/-- A_DIR, `UPC` = 1 (R135). -/
def execADir (s : State) : Outcome State Fault Refusal :=
  .next (s.takeBus 2)

/-- A_MODE, `UPC` = 2 (R136). -/
def execAMode (s : State) : Outcome State Fault Refusal :=
  .next (s.assertMode .address 3)

/-- A_DRIVE, `UPC` = 3 (R137). -/
def execADrive (s : State) : Outcome State Fault Refusal :=
  .next ((s.driveByte .address 4).loadDelay (Phase.address.setupTicks s.cfg))

/-- A_SETUP_WAIT, `UPC` = 4 (R138). -/
def execASetupWait (s : State) : Outcome State Fault Refusal :=
  .next (s.waitTick 5)

/-- A_STROBE, `UPC` = 5 (R139). -/
def execAStrobe (s : State) : Outcome State Fault Refusal :=
  .next (s.strobe .address 6)

/-- A_HOLD_WAIT, `UPC` = 6 (R140). -/
def execAHoldWait (s : State) : Outcome State Fault Refusal :=
  .next (s.waitTick 7)

/-! ### Data phase -/

/-- D_DIR, `UPC` = 7 (R141). -/
def execDDir (s : State) : Outcome State Fault Refusal :=
  .next (s.takeBus 8)

/-- D_DRIVE, `UPC` = 8 (R142). -/
def execDDrive (s : State) : Outcome State Fault Refusal :=
  .next (s.driveByte .data 9)

/-- D_MODE, `UPC` = 9 (R143). -/
def execDMode (s : State) : Outcome State Fault Refusal :=
  .next ((s.assertMode .data 10).loadDelay (Phase.data.setupTicks s.cfg))

/-- D_WRITE_WAIT, `UPC` = 10 (R144). -/
def execDWriteWait (s : State) : Outcome State Fault Refusal :=
  .next (s.waitTick 11)

/-- D_STROBE, `UPC` = 11 (R145). -/
def execDStrobe (s : State) : Outcome State Fault Refusal :=
  .next (s.strobe .data 12)

/-- D_HOLD_WAIT, `UPC` = 12, which leaves to (12 + 1) mod 13 = 0 (R146). -/
def execDHoldWait (s : State) : Outcome State Fault Refusal :=
  .next (s.waitTick 0)

end Sys2Proof.Machine
end

