-- ==== Sys2Proof/Machine/Dispatch.lean ====
section
/-!
DEFINITION. One arm per operation of the opcode table, in the table's order.
-/

namespace Sys2Proof.Machine

open Host

def exec (i : Instr) (s : State) : Host.Outcome State Fault Refusal :=
  match i with
  | .configureClock => Sys2Proof.Machine.execConfigureClock s
  | .writeRegister address value => Sys2Proof.Machine.execWriteRegister address value s
  | .ctlIdle => Sys2Proof.Machine.execCtlIdle s
  | .ctlAl => Sys2Proof.Machine.execCtlAl s
  | .ctlDw => Sys2Proof.Machine.execCtlDw s
  | .ctlReserved => Sys2Proof.Machine.execCtlReserved s
  | .idle => Sys2Proof.Machine.execIdle s
  | .aDir => Sys2Proof.Machine.execADir s
  | .aMode => Sys2Proof.Machine.execAMode s
  | .aDrive => Sys2Proof.Machine.execADrive s
  | .aSetupWait => Sys2Proof.Machine.execASetupWait s
  | .aStrobe => Sys2Proof.Machine.execAStrobe s
  | .aHoldWait => Sys2Proof.Machine.execAHoldWait s
  | .dDir => Sys2Proof.Machine.execDDir s
  | .dDrive => Sys2Proof.Machine.execDDrive s
  | .dMode => Sys2Proof.Machine.execDMode s
  | .dWriteWait => Sys2Proof.Machine.execDWriteWait s
  | .dStrobe => Sys2Proof.Machine.execDStrobe s
  | .dHoldWait => Sys2Proof.Machine.execDHoldWait s

end Sys2Proof.Machine
end

