-- ==== Sys2Proof/Machine/Port.lean ====
section
/-!
DEFINITION. What one tick executes, and the rest of the tick around it: the operation selected (R208, R148), the Clock
Generator's own tick (R105), the host's progress at the command port (R157, R208), the treatment of a reserved command
word (R86), and how an operation is placed so that the next tick selects it.
-/

namespace Sys2Proof.Machine

/-- The command word presented during this tick, if `cmd_valid` is 1 (R208). -/
def State.presented (s : State) : Option CommandWord :=
  match s.host with
  | .present word :: _ => some word
  | .rest :: _ => none
  | [] => none

/-- What the tick executes with `RESET` released: with `UPC` = 0 the presented command, or IDLE when none is presented
(R147, R208); else the micro-operation `UPC` names, whatever is presented (R131, R148). -/
def State.fetch (s : State) : Except DecodeError Instr :=
  if s.ready then
    match s.presented with
    | some word => decodeCmd17 word
    | none => .ok .idle
  else .ok (microOperation s.bt.upc)

/-- The host's moves after this tick: the port takes a presented word on a tick with `READY`, else the host keeps it
(R157, R208). -/
def State.hostAfter (s : State) : List HostMove :=
  if s.ready then takeMove s.host else holdMoves s.host

/-- The part of a tick that is not the operation: CG_TICK, evaluated on the old state so that the operation's writes win
(R105, R174), and the inputs moving on. -/
def State.beginTick (s : State) : State :=
  { s.clockTick with host := s.hostAfter, resetLine := s.resetLine.tail }

/-- A reserved command word taken at the port: the mark is set and no hardware state changes (R86, R208). -/
def State.refuseWord (s : State) : State :=
  s.markRefused

/-- A command word placed at the port, so that the next tick accepts it: it is presented first, the sequencer rests, and
`RESET` is released on that tick. -/
def State.placeCommand (s : State) (word : CommandWord) : State :=
  { s with bt := s.bt.goto 0, host := .present word :: s.host, resetLine := false :: s.resetLine }

/-- A micro-operation placed at the sequencer, so that the next tick executes it: `UPC` names it and `RESET` is released on
that tick.  For IDLE the host rests on that tick, since a presented command would be accepted instead. -/
def State.placeMicroOperation (s : State) (u : MicroIndex) : State :=
  { s with
    bt := s.bt.goto u
    host := if u = 0 then .rest :: s.host else s.host
    resetLine := false :: s.resetLine }

/-- Place a word of a format where the next tick selects it.  Nothing selects a control-line code, and 13, 14 and 15 name no
micro-operation: the state is then left as it is (R30, R86). -/
def State.placeWord (s : State) (f : Format) (w : Nat) : State :=
  match f with
  | .cmd17 => s.placeCommand (BitVec.ofNat 17 w)
  | .upc4 => if h : w < 13 then s.placeMicroOperation ⟨w, h⟩ else s
  | .ctl2 => s

end Sys2Proof.Machine
end

