-- ==== Sys2Proof/Machine/Step.lean ====
section
/-!
DEFINITION. One tick of the machine (R14): reset, or CG_TICK together with the one operation the tick executes.
-/

namespace Sys2Proof.Machine

open Host

/-- One tick (R14, R190, R208).  A machine is instantiated only at a valid configuration record (R10). -/
def step (s : State) : Outcome State Fault Refusal :=
  if s.cfg.Valid then
    if s.resetAsserted then .next s.takeReset
    else
      match s.fetch with
      | .ok i => exec i s.beginTick
      | .error _ => .next s.beginTick.refuseWord
  else .refused .invalidConfiguration

/-- The state with the opcode-table word `w` of `nbits` bits placed where `step` selects its next operation: a command word
at the command port, a micro-operation index in `UPC`. -/
def State.withFetchWord (s : State) (nbits w : Nat) : State :=
  match formatOfBits nbits with
  | some f => s.placeWord f w
  | none => s

end Sys2Proof.Machine
end

