-- ==== Sys2Proof/Machine/Transcriber.lean ====
section
/-!
DEFINITION. The textual form of a program (R88), one command per line, and its transcription into the command words the host
presents.  Text is a list of characters.  Blanks are allowed around a command and around a literal: DESIGN CHOICE (log
entry 13).
-/

namespace Sys2Proof.Machine

/-- Why a line of text is no command (R88). -/
inductive TextError where
  /-- The line is neither blank nor one of the two calls. -/
  | notACommand
  /-- A literal lies outside 0..255. -/
  | literalOutOfRange
  deriving DecidableEq, Repr

/-- A blank inside a line. -/
def isBlank (ch : Char) : Bool :=
  ch == ' ' || ch == '\t' || ch == '\r'

/-- A text without the blanks at its two ends. -/
def trimBlanks (text : List Char) : List Char :=
  ((text.dropWhile isBlank).reverse.dropWhile isBlank).reverse

/-- A line without its comment, which `#` starts (R88). -/
def withoutComment (line : List Char) : List Char :=
  line.takeWhile fun ch => ch != '#'

/-- What follows a given beginning, if the text has it. -/
def afterText : List Char → List Char → Option (List Char)
  | [], text => some text
  | _ :: _, [] => none
  | w :: ws, ch :: text => if w == ch then afterText ws text else none

/-- What stands before and after the first occurrence of a character. -/
def splitAtChar (mark : Char) : List Char → Option (List Char × List Char)
  | [] => none
  | ch :: text =>
    if ch == mark then some ([], text)
    else (splitAtChar mark text).map fun parts => (ch :: parts.1, parts.2)

/-- The value of a digit in base 10 or 16. -/
def digitValue (base : Nat) (ch : Char) : Option Nat :=
  let n := ch.toNat
  let value :=
    if 48 ≤ n ∧ n ≤ 57 then some (n - 48)
    else if 97 ≤ n ∧ n ≤ 102 then some (n - 87)
    else if 65 ≤ n ∧ n ≤ 70 then some (n - 55)
    else none
  value.filter fun v => v < base

/-- The value of further digits after a value read so far. -/
def digitsFrom (base : Nat) : Nat → List Char → Option Nat
  | value, [] => some value
  | value, ch :: text =>
    match digitValue base ch with
    | some d => digitsFrom base (base * value + d) text
    | none => none

/-- A numeral of at least one digit. -/
def numeral (base : Nat) (text : List Char) : Option Nat :=
  if text.isEmpty then none else digitsFrom base 0 text

/-- An integer literal, decimal or `0x` hexadecimal (R88). -/
def literal (text : List Char) : Option Nat :=
  match trimBlanks text with
  | '0' :: 'x' :: digits => numeral 16 digits
  | digits => numeral 10 digits

/-- The text of the call `configure_clock()` (R88). -/
def configureText : List Char :=
  ['c', 'o', 'n', 'f', 'i', 'g', 'u', 'r', 'e', '_', 'c', 'l', 'o', 'c', 'k', '(', ')']

/-- The text of the call of `write_register` up to its first operand (R88). -/
def writeText : List Char :=
  ['w', 'r', 'i', 't', 'e', '_', 'r', 'e', 'g', 'i', 's', 't', 'e', 'r', '(']

/-- The two operands of a call of `write_register`: `<address>, <value>)` (R88). -/
def parseOperands (text : List Char) : Option SourceCommand :=
  match splitAtChar ',' text with
  | none => none
  | some (address, rest) =>
    match splitAtChar ')' rest with
    | some (value, []) =>
      match literal address, literal value with
      | some a, some v => some (.writeRegister a v)
      | _, _ => none
    | _ => none

/-- One line of a program: a command, or nothing on a line that holds only blanks and a comment (R88). -/
def parseLine (line : List Char) : Except TextError (Option SourceCommand) :=
  let text := trimBlanks (withoutComment line)
  if text.isEmpty then .ok none
  else if text = configureText then .ok (some .configureClock)
  else
    match (afterText writeText text).bind parseOperands with
    | some command => .ok (some command)
    | none => .error .notACommand

/-- The command word of a source-level command; a literal outside 0..255 is refused (R81, R88). -/
def transcribe (command : SourceCommand) : Except TextError CommandWord :=
  if command.wellFormed then
    match command with
    | .configureClock => .ok configureClockWord
    | .writeRegister a v => .ok (writeRegisterWord (BitVec.ofNat 8 a) (BitVec.ofNat 8 v))
  else .error .literalOutOfRange

/-- The command words of a program, in order (R88). -/
def transcribeLines : List (List Char) → Except TextError (List CommandWord)
  | [] => .ok []
  | line :: lines =>
    match parseLine line with
    | .error e => .error e
    | .ok none => transcribeLines lines
    | .ok (some command) =>
      match transcribe command, transcribeLines lines with
      | .ok word, .ok words => .ok (word :: words)
      | .error e, _ => .error e
      | _, .error e => .error e

/-- A text cut into its lines. -/
def textLines : List Char → List (List Char)
  | [] => [[]]
  | ch :: text =>
    if ch == '\n' then [] :: textLines text
    else
      match textLines text with
      | line :: lines => (ch :: line) :: lines
      | [] => [[ch]]

/-- The command words of a program text (R88). -/
def transcribeText (text : List Char) : Except TextError (List CommandWord) :=
  transcribeLines (textLines text)

/-- A host about to present the words of a program, one after another and each as early as the port takes it (R70, R88). -/
def hostOf (program : List CommandWord) : List HostMove :=
  program.map HostMove.present

/-- The state with a program given to the host (log entry 3). -/
def State.loadProgram (program : List CommandWord) (s : State) : State :=
  { s with host := hostOf program }

end Sys2Proof.Machine
end

