-- ==== Sys2Proof/Safety.lean ====
section
/-!
DEFINITION. In what terms a run is judged: ticks of the machine, the invariants of the two components (R113, R152), register
widths (R20), the observer of the pins (R155), the end of a run (R209) and the launch premises (R210).
-/

namespace Sys2Proof.Machine

open Host

/-! ### Ticks -/

/-- `n` ticks of the machine, stopping at the first stop. -/
def ticks : Nat → State → Outcome State Fault Refusal
  | 0, s => .next s
  | n + 1, s =>
    match step s with
    | .next t => ticks n t
    | .fault r => .fault r
    | .refused r => .refused r

/-- `RESET` is released on each of the next `n` ticks. -/
abbrev State.NoResetFor (n : Nat) (s : State) : Prop :=
  ∀ level ∈ s.resetLine.take n, level = false

/-- `NoResetDuringRun` (R210): `RESET` is never asserted again. -/
abbrev State.NoReset (s : State) : Prop :=
  ∀ level ∈ s.resetLine, level = false

/-! ### Invariants -/

/-- The delay count of the wait at an index, if there is a wait there (R132). -/
def waitCount (c : Config) (u : MicroIndex) : Option Nat :=
  if u = 4 then some c.nAs
  else if u = 6 then some c.nAh
  else if u = 10 then some c.nDw
  else if u = 12 then some c.nDh
  else none

/-- The control-line code that goes with a value of `UPC` (R152 (b)). -/
def codeAt (c : Config) (u : MicroIndex) : ControlCode :=
  if u = 3 ∨ u = 4 ∨ u = 5 then c.ctlCodeAl
  else if u = 10 ∨ u = 11 then c.ctlCodeDw
  else 0b00#2

/-- The value of `DLY` goes with `UPC` (R152 (d)): 0 outside a wait, and from 1 to the count of the wait in one. -/
abbrev DelayConsistent (c : Config) (b : BusTransactor) : Prop :=
  (waitCount c b.upc = none → b.dly = 0) ∧ (waitCount c b.upc ≠ none → 1 ≤ b.dly) ∧ b.dly ≤ (waitCount c b.upc).getD 0

/-- R152 (b), (d), (e): the control lines, the delay counter and the bus direction are as `UPC` says.  R152 (c) holds by the
type of `UPC`; R152 (a) and (f) follow at a valid configuration record. -/
abbrev State.BusInvariant (s : State) : Prop :=
  s.bt.ctl = codeAt s.cfg s.bt.upc ∧ DelayConsistent s.cfg s.bt ∧ (2 ≤ s.bt.upc → s.bt.busDir = .driver)

/-- R113 (a): the Clock Generator is stopped, or runs as the record says. -/
abbrev ClockConfiguredOrStopped (c : Config) (g : ClockGenerator) : Prop :=
  (g.div = 0 ∧ g.mode = .off ∧ g.clkOe = false) ∨
    (g.div = c.divider ∧ g.mode = .toggleOnMatch ∧ g.clkOe = true ∧ g.cmp = c.compareValue)

/-- R113: (a), (b) and (c). -/
abbrev State.ClockInvariant (s : State) : Prop :=
  ClockConfiguredOrStopped s.cfg s.cg ∧ s.cg.pre < max s.cg.div 1 ∧ s.cg.cnt ≤ s.cg.cmp

/-- Every register whose width depends on the record fits its width (R20). -/
abbrev State.WidthsRespected (s : State) : Prop :=
  s.bt.dly < 2 ^ s.cfg.dlyW ∧ s.cg.div < 2 ^ s.cfg.divW ∧ s.cg.cmp < 2 ^ s.cfg.cntW ∧
    s.cg.pre < 2 ^ s.cfg.divW ∧ s.cg.cnt < 2 ^ s.cfg.cntW

/-! ### The observer of the pins -/

/-- The observer of R155: this spec's reading of the pins, not a description of the target chip. -/
structure Observer where
  /-- The address taken at the last address strobe, `latched` of R155. -/
  latched : Option Byte
  /-- The output list of R155, oldest first. -/
  writes : List (Byte × Byte)
  deriving DecidableEq, Repr

/-- The observer at the start of a run (R155). -/
def Observer.initial : Observer :=
  { latched := none, writes := [] }

/-- The observer at a transition whose control-line codes are legal (R155; conflict C12: the direction and the byte are those
of the state after the transition). -/
def Observer.strobe (o : Observer) (before after : State) : Observer :=
  if after.bt.ctl = 0b00#2 then
    match after.dataPins with
    | none => o
    | some byte =>
      if before.bt.ctl = before.cfg.ctlCodeAl then { o with latched := some byte }
      else if before.bt.ctl = before.cfg.ctlCodeDw then
        match o.latched with
        | some address => { o with writes := o.writes ++ [(address, byte)] }
        | none => o
      else o
  else o

/-- The observer at a transition (R155).  One that meets the code `0b11` on the pins does not interpret the trace (U2 of
93_implementation_defined.md). -/
def Observer.observe (o : Observer) (before after : State) : Option Observer :=
  if before.bt.ctl = 0b11#2 ∨ after.bt.ctl = 0b11#2 then none else some (o.strobe before after)

/-- `n` ticks of the machine under the eyes of an observer. -/
def observedTicks : Nat → State → Observer → Option (State × Observer)
  | 0, s, o => some (s, o)
  | n + 1, s, o =>
    match step s with
    | .next t =>
      match o.observe s t with
      | some o' => observedTicks n t o'
      | none => none
    | .fault _ => none
    | .refused _ => none

/-! ### Runs -/

/-- The named launch premises of R210 about a start state: `FromReset` and `ValidConfig`. -/
abbrev State.FromReset (s : State) : Prop :=
  s.cfg.Valid ∧ s.bt = BusTransactor.reset ∧ s.cg = ClockGenerator.reset ∧ s.refused = false

/-- `ClockFirst` (R210): the first command of the program is CONFIGURE_CLOCK and no other is. -/
def clockFirst (program : List CommandWord) : Bool :=
  match program with
  | [] => false
  | word :: later => word = configureClockWord && later.all fun w => w ≠ configureClockWord

/-- The word a move of the host presents. -/
def HostMove.word? : HostMove → Option CommandWord
  | .present word => some word
  | .rest => none

/-- The command words the host has still to send, in order. -/
def State.commandsToCome (s : State) : List CommandWord :=
  s.host.filterMap HostMove.word?

/-- CONFIGURE_CLOCK at most once per reset (R208): the one that has configured the Clock Generator counts. -/
abbrev State.ConfiguresAtMostOnce (s : State) : Prop :=
  s.commandsToCome.count configureClockWord + (if s.configured then 1 else 0) ≤ 1

/-- CONFIGURE_CLOCK before any write (R208): no write stands before it among the words to come, and none is to come once a
write has been accepted, which `UPC` or `BUS_DIR` shows from then on (R152 (e)). -/
abbrev State.ConfiguresBeforeWrites (s : State) : Prop :=
  (s.commandsToCome.Pairwise fun earlier later => later = configureClockWord → CommandWord.op earlier = false) ∧
    (s.bt.upc ≠ 0 ∨ s.bt.busDir = .driver → configureClockWord ∉ s.commandsToCome)

/-- `HostProtocol` (R210): the host keeps the "must" column of R208, and `RESET` is not asserted.  That a presented command is
held until it is accepted, and that a call has returned only when `READY` is 1 again, need no clause: the host has no other
move (log entry 7). -/
abbrev State.HostProtocol (s : State) : Prop :=
  s.ConfiguresAtMostOnce ∧ s.ConfiguresBeforeWrites ∧ s.NoReset

/-- The host sends the two commands of R208 only, no reserved word (R81, R86). -/
abbrev State.SendsCommandsOnly (s : State) : Prop :=
  (s.commandsToCome.all fun word => CommandWord.op word || word = configureClockWord) = true

/-- Every command of the host's list has been accepted and `UPC` = 0: where a run ends (R209). -/
abbrev State.RunOver (s : State) : Prop :=
  s.bt.upc = 0 ∧ ∀ move ∈ s.host, move = .rest

/-- `NotRefused` (R210). -/
abbrev State.NotRefused (s : State) : Prop :=
  s.refused = false

/-- A final state: the run is over and the mark `REFUSED` is not set (R209, R210). -/
abbrev State.Final (s : State) : Prop :=
  s.RunOver ∧ s.NotRefused

/-- The pins of one write (R149): `CTL`, `BUS_DIR` and `BUS_OUT` in the state `k` ticks after the tick that accepted
WRITE_REGISTER(a, v) began, from a state with direction `d0` and bus byte `o0`, until the state in which `UPC` is 0 again. -/
def writePins (c : Config) (d0 : BusDirection) (o0 a v : Byte) (k : Nat) : ControlCode × BusDirection × Byte :=
  if k < 2 then (0b00#2, d0, o0)
  else if k < 3 then (0b00#2, .driver, o0)
  else if k < 4 then (c.ctlCodeAl, .driver, o0)
  else if k < 5 + c.nAs then (c.ctlCodeAl, .driver, a)
  else if k < 7 + c.nAs + c.nAh then (0b00#2, .driver, a)
  else if k < 8 + c.nAs + c.nAh then (0b00#2, .driver, v)
  else if k < 9 + c.nAs + c.nAh + c.nDw then (c.ctlCodeDw, .driver, v)
  else (0b00#2, .driver, v)

end Sys2Proof.Machine
end

