-- ==== Sys2Proof/Certificates/Slice0/Obligations.lean ====
section
/-!
DEFINITION. The statements about the block, for the provers.  They hold for every configuration record: no statement rests on
the record that `State.reset` was instantiated at (log entry 2).  A statement about the clock's phase or its invariant takes
`REFUSED` = 0 as a premise; where another statement also speaks of a state with the mark set, it says what the model does there,
and by R42 it is a claim about the hardware only where the mark is 0 (log entry 4).
-/

open Sys2Proof Sys2Proof.Machine Host

/-! ### Encoding -/

/-- R81, R82, R84, R89: the decoder undoes the encoder, for every operation and every operand, at either assignment of the
two control-line codes (the reserved code decodes to its own row). -/
def Obligations.DecodeOfEncodeIsIdentity : Prop :=
  ∀ (c : Config) (i : Instr), c.ValidCodes →
    decodeWith c.ctlCodeAl c.ctlCodeDw (encodeWith c.ctlCodeAl c.ctlCodeDw i) = .ok i

/-- R89: every word that decodes is the encoding of what it decodes to, and the words that do not are exactly the 65,535
command words of R86 (`op` = 0, low field not zero), the indices 13, 14, 15, and the numbers too wide for their format. -/
def Obligations.EncodeOfDecodeIsIdentity : Prop :=
  ∀ (c : Config) (e : Encoded), c.ValidCodes →
    (∀ i, decodeWith c.ctlCodeAl c.ctlCodeDw e = .ok i → encodeWith c.ctlCodeAl c.ctlCodeDw i = e) ∧
    ((∃ err, decodeWith c.ctlCodeAl c.ctlCodeDw e = .error err) ↔
      2 ^ e.format.width ≤ e.word ∨ (e.format = .cmd17 ∧ 0 < e.word ∧ e.word < 0x10000) ∨ (e.format = .upc4 ∧ 13 ≤ e.word))

/-- R81, R82, R84: the words of 95_test_vectors.md section 2.1 and a word of each other format, written out in binary. -/
def Obligations.WrittenOutWordsDecode : Prop :=
  decodeCmd17 0b00000000000000000#17 = .ok .configureClock ∧
  decodeCmd17 0b10000111000111111#17 = .ok (.writeRegister 0x0E#8 0x3F#8) ∧
  decodeCmd17 0b11111111110101010#17 = .ok (.writeRegister 0xFF#8 0xAA#8) ∧
  decodeCmd17 0b00000000000000001#17 = .error .reservedCommandWord ∧
  decode ⟨.ctl2, 0b10⟩ = .ok .ctlDw ∧
  decodeUpc4 0b0101#4 = .ok .aStrobe ∧
  decodeUpc4 0b1010#4 = .ok .dWriteWait ∧
  decodeUpc4 0b1101#4 = .error .unreachableMicroOperation

/-- 30_encoding.md section 3, 70_reset_and_hazards.md section 5, 40_clock_generator.md section 3 (R86, R208, R105): the
reserved encodings and their treatment.  The control-line code `0b11` is its own row and no state that meets the bus invariant
drives it; a reserved command word is invalid; the indices 13, 14, 15 name nothing; every byte is legal in both phases.  Two
clauses are the model's reading: that the operation of CTL_RESERVED is refused ("no behaviour to define"), and that a reserved
word taken at the port gives a next state with the mark set, the word consumed and CG_TICK made as on every tick (log entry 4). -/
def Obligations.ReservedEncodingsAreRejected : Prop :=
  (∀ s : State, exec .ctlReserved s = .refused .reservedControlCode) ∧
  (∀ c : Config, c.ValidCodes → decodeCtl2 c.ctlCodeAl c.ctlCodeDw 0b11#2 = .ctlReserved) ∧
  (∀ s : State, s.cfg.ValidCodes → s.BusInvariant → s.bt.ctl ≠ 0b11#2) ∧
  (∀ w : CommandWord, w ≠ 0 → w.toNat < 0x10000 → decodeCmd17 w = .error .reservedCommandWord) ∧
  (∀ (s : State) (w : CommandWord) (later : List HostMove), s.cfg.Valid → s.resetAsserted = false → s.bt.upc = 0 →
    s.host = .present w :: later → w ≠ 0 → w.toNat < 0x10000 →
    step s = .next { s with
      cg := ClockGenerator.tick s.cfg s.cg, refused := true, host := later, resetLine := s.resetLine.tail }) ∧
  (∀ u : BitVec 4, 13 ≤ u.toNat → decodeUpc4 u = .error .unreachableMicroOperation) ∧
  (∀ a v : Byte, decodeCmd17 (writeRegisterWord a v) = .ok (.writeRegister a v))

/-- R88: a source-level write with both literals in 0..255 becomes the word of that write, and any other is refused;
`configure_clock()` becomes the word of CONFIGURE_CLOCK. -/
def Obligations.TranscribedCommandsDecodeToThemselves : Prop :=
  (∀ a v : Nat, a ≤ 255 → v ≤ 255 → ∃ w, transcribe (.writeRegister a v) = .ok w ∧
    decodeCmd17 w = .ok (.writeRegister (BitVec.ofNat 8 a) (BitVec.ofNat 8 v))) ∧
  (∀ a v : Nat, 255 < a ∨ 255 < v → transcribe (.writeRegister a v) = .error .literalOutOfRange) ∧
  (∃ w, transcribe .configureClock = .ok w ∧ decodeCmd17 w = .ok .configureClock)

/-! ### Reset and the configuration record -/

/-- R50: the reset state, of the machine at any record, and what is seen of it. -/
def Obligations.ResetLeavesStatedValues : Prop :=
  ∀ (c : Config) (s : State), s = State.resetOf c →
    s.bt.upc = 0 ∧ s.bt.areg = 0x00#8 ∧ s.bt.vreg = 0x00#8 ∧ s.bt.busOut = 0x00#8 ∧ s.bt.busDir = .input ∧
    s.bt.ctl = 0b00#2 ∧ s.bt.dly = 0 ∧ s.cg.clkOe = false ∧ s.cg.mode = .off ∧ s.cg.div = 0 ∧ s.cg.cmp = 0 ∧
    s.cg.pre = 0 ∧ s.cg.cnt = 0 ∧ s.cg.clkQ = false ∧ s.refused = false ∧
    (∀ line, s.pin (.d line) = .undriven) ∧ s.pin .ctl1 = .low ∧ s.pin .ctl0 = .low ∧ s.pin .clk = .undriven ∧
    s.ready = true ∧ s.configured = false ∧ namedState s.bt.upc = .idle

/-- R190: a tick with `RESET` asserted gives the reset state, whatever the state and the presented command were, and no
command is accepted on it: a presented command stays presented. -/
def Obligations.ResetInputWins : Prop :=
  ∀ s : State, s.cfg.Valid → s.resetAsserted = true →
    ∃ t, step s = .next t ∧
      t = { State.resetOf s.cfg with host := t.host, resetLine := s.resetLine.tail } ∧
      (∀ w later, s.host = .present w :: later → t.host = s.host)

/-- 70_reset_and_hazards.md section 1 (R192): a reset during a write abandons it; the control lines fall to idle, the data
pins are not driven any more, and the observer records nothing. -/
def Obligations.ResetAbandonsWriteUnobserved : Prop :=
  ∀ (s : State) (o : Observer), s.cfg.Valid → s.BusInvariant → s.resetAsserted = true →
    ∃ t, step s = .next t ∧ t.bt.upc = 0 ∧ t.bt.ctl = 0b00#2 ∧ (∀ line, t.pin (.d line) = .undriven) ∧
      o.observe s t = some o

/-- R10: a machine whose configuration record is not valid is refused, not run. -/
def Obligations.InvalidConfigurationIsRefused : Prop :=
  ∀ s : State, ¬ s.cfg.Valid → step s = .refused .invalidConfiguration

/-- 40_clock_generator.md section 2 (R101): `ROUNDED` is the exact quotient `F_SYS / (2 * DIVIDER * F_OUT)` rounded to the
nearest integer, a tie going up, and the threshold is one less, with no clamping. -/
def Obligations.ThresholdIsNearestInteger : Prop :=
  ∀ c : Config, 1 ≤ c.divider → 1 ≤ c.fOut →
    (2 * c.divider * c.fOut) * c.rounded ≤ c.fSys + c.divider * c.fOut ∧
    c.fSys + c.divider * c.fOut < (2 * c.divider * c.fOut) * (c.rounded + 1) ∧
    c.threshold = (c.rounded : Int) - 1

/-- R133: a delay count is the least number of ticks, and at least 1, that lasts as long as the used delay; with the three
examples of the rule. -/
def Obligations.DelayCountIsLeastSufficient : Prop :=
  (∀ (c : Config) (ns : Nat), 1 ≤ c.ticksOf ns ∧ ns * c.fSys ≤ c.ticksOf ns * nsPerSecond ∧
    ∀ n, 1 ≤ n → ns * c.fSys ≤ n * nsPerSecond → c.ticksOf ns ≤ n) ∧
  (∀ c : Config, c.nAs = c.ticksOf c.tAsUsedNs ∧ c.nAh = c.ticksOf c.tAhUsedNs ∧ c.nDw = c.ticksOf c.tDwUsedNs ∧
    c.nDh = c.ticksOf c.tDhUsedNs) ∧
  (∀ c : Config, (c.fSys = 16000000 → c.ticksOf 1000 = 16) ∧ (c.fSys = 1000000 → c.ticksOf 1000 = 1) ∧
    (c.fSys = 20000000 → c.ticksOf 1000 = 20))

/-- 41_bus_transactor.md sections 2 and 5 (R134, R150): at a valid record every interval of a write that has a bound keeps
it; a number of ticks is compared with a time in nanoseconds through `F_SYS`. -/
def Obligations.ValidDelaysKeepTheBusContract : Prop :=
  ∀ c : Config, c.Valid →
    c.tAsMinNs * c.fSys ≤ (c.nAs + 1) * nsPerSecond ∧
    c.tAhMinNs * c.fSys ≤ (c.nAh + 2) * nsPerSecond ∧
    c.tDwMinNs * c.fSys ≤ (c.nDw + 1) * nsPerSecond ∧
    (c.nDw + 1) * nsPerSecond ≤ c.tDwMaxNs * c.fSys ∧
    c.tDhMinNs * c.fSys ≤ (c.nDh + 4) * nsPerSecond

/-- 41_bus_transactor.md section 2 (R134, its last sentence): with the default delays the delay part of a record is valid
exactly from a system clock of 200,000 Hz up. -/
def Obligations.DefaultDelaysValidFrom200kHz : Prop :=
  ∀ c : Config, c.tAsMinNs = 300 → c.tAhMinNs = 80 → c.tDwMinNs = 300 → c.tDwMaxNs = 10000 → c.tDhMinNs = 80 →
    c.tAsUsedNs = 1000 → c.tAhUsedNs = 1000 → c.tDwUsedNs = 1000 → c.tDhUsedNs = 1000 →
    (c.ValidDelay ↔ 200000 ≤ c.fSys)

/-! ### One tick -/

/-- 70_reset_and_hazards.md section 5, 41_bus_transactor.md section 5, 40_clock_generator.md section 3 (R208, R148, R105): a
tick runs the operation it selects.  With `UPC` = 0 that is the decoded command presented, or IDLE; else it is the
micro-operation `UPC` names, whatever is presented.  Around the operation the Clock Generator makes its own tick, on the old
state, and the inputs move on: a command is taken exactly when `UPC` = 0. -/
def Obligations.StepRunsSelectedOperation : Prop :=
  ∀ s : State, s.cfg.Valid → s.resetAsserted = false →
    (∀ i, s.fetch = .ok i → step s = exec i { s with
      cg := ClockGenerator.tick s.cfg s.cg, host := s.hostAfter, resetLine := s.resetLine.tail }) ∧
    (s.bt.upc ≠ 0 → s.fetch = .ok (microOperation s.bt.upc) ∧
      (∀ w later, s.host = .present w :: later → s.hostAfter = s.host) ∧
      (∀ later, s.host = .rest :: later → s.hostAfter = later) ∧ (s.host = [] → s.hostAfter = [])) ∧
    (s.bt.upc = 0 →
      (∀ w later, s.host = .present w :: later → s.fetch = decodeCmd17 w ∧ s.hostAfter = later) ∧
      (∀ later, s.host = .rest :: later → s.fetch = .ok .idle ∧ s.hostAfter = later) ∧
      (s.host = [] → s.fetch = .ok .idle ∧ s.hostAfter = []))

/-- 60_exceptions.md section 1, 41_bus_transactor.md section 6 (R170, R158): a machine at a valid record takes every tick; no state
makes it stop or fault, for any number of ticks. -/
def Obligations.ValidMachineNeverStops : Prop :=
  ∀ (n : Nat) (s : State), s.cfg.Valid → ∃ t, ticks n s = .next t ∧ t.cfg = s.cfg

/-- R157: a command presented while a write is in progress is not accepted, changes nothing and waits: the tick is the one
that would happen with nothing presented, and the host keeps the command. -/
def Obligations.CommandWhileBusyWaits : Prop :=
  ∀ (s : State) (w : CommandWord) (later : List HostMove), s.cfg.Valid → s.resetAsserted = false → s.bt.upc ≠ 0 →
    s.host = .present w :: later →
    ∃ t, step s = .next t ∧ t.host = s.host ∧ step { s with host := [] } = .next { t with host := [] }

/-! ### Commands -/

/-- R109: CONFIGURE_CLOCK accepted for the first time writes the configuration of the Clock Generator and clears its two
counters; `CLK_Q`, the Bus Transactor and all else keep their values; the port stays ready, `CONFIGURED` becomes 1 and
the pin `CLK` is driven, at `CLK_Q`.  With `UPC` not 0 it is not accepted and changes nothing. -/
def Obligations.FirstConfigureLoadsClock : Prop :=
  ∀ s : State,
    (s.bt.upc = 0 → s.cg.mode = .off → ∃ t, exec .configureClock s = .next t ∧
      t = { s with cg :=
        { clkOe := true, mode := .toggleOnMatch, div := s.cfg.divider, cmp := s.cfg.compareValue, pre := 0, cnt := 0,
          clkQ := s.cg.clkQ } } ∧
      t.ready = true ∧ t.configured = true ∧ t.pin .clk = PinLevel.driven s.cg.clkQ) ∧
    (s.bt.upc ≠ 0 → exec .configureClock s = .next s)

/-- R110: CONFIGURE_CLOCK accepted by a configured Clock Generator sets the mark and changes nothing else. -/
def Obligations.SecondConfigureSetsOnlyMark : Prop :=
  ∀ s : State, s.bt.upc = 0 → s.cg.mode = .toggleOnMatch →
    exec .configureClock s = .next { s with refused := true }

/-- 41_bus_transactor.md section 1 (R131): WRITE_REGISTER is accepted exactly when `UPC` = 0; it latches the operands and
starts the sequencer, nothing else changes and no pin changes; not accepted, it has no effect. -/
def Obligations.WriteAcceptanceLatchesOperands : Prop :=
  ∀ (s : State) (a v : Byte),
    (s.bt.upc = 0 → ∃ t, exec (.writeRegister a v) s = .next t ∧
      t = { s with bt := { s.bt with areg := a, vreg := v, upc := 1 } } ∧ ∀ sig, t.pin sig = s.pin sig) ∧
    (s.bt.upc ≠ 0 → exec (.writeRegister a v) s = .next s)

/-! ### Control-line codes -/

/-- 30_encoding.md section 1 (R82), by the reading of log entry 6: a control-line code puts its mode on the two control pins
and changes nothing else; with the default codes `CTL1`, `CTL0` show 0 0, 0 1 and 1 0.  That the operation of a CTL2 row is the
write of `CTL` is the model's reading. -/
def Obligations.ControlCodesWriteOnlyControlLines : Prop :=
  ∀ s : State,
    (∃ t, exec .ctlIdle s = .next t ∧ t = { s with bt := { s.bt with ctl := 0b00#2 } } ∧
      t.pin .ctl1 = .low ∧ t.pin .ctl0 = .low) ∧
    (∃ t, exec .ctlAl s = .next t ∧ t = { s with bt := { s.bt with ctl := s.cfg.ctlCodeAl } } ∧
      (s.cfg.ctlCodeAl = 0b01#2 → t.pin .ctl1 = .low ∧ t.pin .ctl0 = .high) ∧
      (s.cfg.ctlCodeAl = 0b10#2 → t.pin .ctl1 = .high ∧ t.pin .ctl0 = .low)) ∧
    (∃ t, exec .ctlDw s = .next t ∧ t = { s with bt := { s.bt with ctl := s.cfg.ctlCodeDw } } ∧
      (s.cfg.ctlCodeDw = 0b10#2 → t.pin .ctl1 = .high ∧ t.pin .ctl0 = .low) ∧
      (s.cfg.ctlCodeDw = 0b01#2 → t.pin .ctl1 = .low ∧ t.pin .ctl0 = .high))

/-! ### Micro-operations -/

/-- R147: IDLE changes nothing; on a tick with `UPC` = 0 on which no WRITE_REGISTER is accepted the Bus Transactor and its
pins hold, whatever else is presented, and the control lines are idle. -/
def Obligations.RestingKeepsBusTransactor : Prop :=
  (∀ s : State, exec .idle s = .next s) ∧
  (∀ s : State, s.cfg.Valid → s.resetAsserted = false → s.bt.upc = 0 →
    (∀ a v, s.fetch ≠ .ok (.writeRegister a v)) →
    ∃ t, step s = .next t ∧ t.bt = s.bt ∧ (∀ sig, sig ≠ .clk → t.pin sig = s.pin sig) ∧
      (s.BusInvariant → t.bt.ctl = 0b00#2))

/-- R135: A_DIR makes the block the driver of the bus; the data pins show the stale `BUS_OUT`, and no pin changes if it was
the driver already. -/
def Obligations.ADirBecomesDriver : Prop :=
  ∀ s : State, ∃ t, exec .aDir s = .next t ∧
    t = { s with bt := { s.bt with busDir := .driver, upc := 2 } } ∧
    (∀ line : Fin 8, t.pin (.d line) = PinLevel.driven (s.bt.busOut.getLsbD line)) ∧
    (s.bt.busDir = .driver → ∀ sig, t.pin sig = s.pin sig)

/-- R136: A_MODE asserts address-latch mode; from idle exactly one control pin rises; the data pins keep the stale byte. -/
def Obligations.AModeAssertsAddressLatch : Prop :=
  ∀ s : State, ∃ t, exec .aMode s = .next t ∧
    t = { s with bt := { s.bt with ctl := s.cfg.ctlCodeAl, upc := 3 } } ∧
    (∀ line, t.pin (.d line) = s.pin (.d line)) ∧
    (s.cfg.ValidCodes → s.bt.ctl = 0b00#2 →
      (t.pin .ctl0 = .high ∧ s.pin .ctl0 = .low ∧ t.pin .ctl1 = s.pin .ctl1) ∨
      (t.pin .ctl1 = .high ∧ s.pin .ctl1 = .low ∧ t.pin .ctl0 = s.pin .ctl0))

/-- R137: A_DRIVE drives the 8 address bits onto the data pins, none masked, and loads the set-up delay. -/
def Obligations.ADriveDrivesAddress : Prop :=
  ∀ s : State, ∃ t, exec .aDrive s = .next t ∧
    t = { s with bt := { s.bt with busOut := s.bt.areg, dly := s.cfg.nAs, upc := 4 } } ∧
    (s.bt.busDir = .driver → ∀ line : Fin 8, t.pin (.d line) = PinLevel.driven (s.bt.areg.getLsbD line)) ∧
    t.pin .ctl1 = s.pin .ctl1 ∧ t.pin .ctl0 = s.pin .ctl0

/-- R139: A_STROBE returns the control lines to idle: the one pin A_MODE raised falls, the data pins keep the address; the
hold delay is loaded. -/
def Obligations.AStrobeReturnsToIdle : Prop :=
  ∀ s : State, ∃ t, exec .aStrobe s = .next t ∧
    t = { s with bt := { s.bt with ctl := 0b00#2, dly := s.cfg.nAh, upc := 6 } } ∧
    (∀ line, t.pin (.d line) = s.pin (.d line)) ∧
    (s.cfg.ValidCodes → s.bt.ctl = s.cfg.ctlCodeAl →
      (s.pin .ctl0 = .high ∧ t.pin .ctl0 = .low ∧ t.pin .ctl1 = s.pin .ctl1) ∨
      (s.pin .ctl1 = .high ∧ t.pin .ctl1 = .low ∧ t.pin .ctl0 = s.pin .ctl0))

/-- R141: D_DIR makes the block the driver of the bus again; no pin changes if it was. -/
def Obligations.DDirReassertsDriver : Prop :=
  ∀ s : State, ∃ t, exec .dDir s = .next t ∧
    t = { s with bt := { s.bt with busDir := .driver, upc := 8 } } ∧
    (s.bt.busDir = .driver → ∀ sig, t.pin sig = s.pin sig)

/-- R142: D_DRIVE drives the 8 data bits onto the data pins; the control lines do not change. -/
def Obligations.DDriveDrivesData : Prop :=
  ∀ s : State, ∃ t, exec .dDrive s = .next t ∧
    t = { s with bt := { s.bt with busOut := s.bt.vreg, upc := 9 } } ∧
    (s.bt.busDir = .driver → ∀ line : Fin 8, t.pin (.d line) = PinLevel.driven (s.bt.vreg.getLsbD line)) ∧
    t.pin .ctl1 = s.pin .ctl1 ∧ t.pin .ctl0 = s.pin .ctl0

/-- R143: D_MODE asserts data-write mode and loads the data-write delay; from idle exactly one control pin rises, the other
one than in A_MODE. -/
def Obligations.DModeAssertsDataWrite : Prop :=
  ∀ s : State, ∃ t, exec .dMode s = .next t ∧
    t = { s with bt := { s.bt with ctl := s.cfg.ctlCodeDw, dly := s.cfg.nDw, upc := 10 } } ∧
    (∀ line, t.pin (.d line) = s.pin (.d line)) ∧
    (s.cfg.ValidCodes → s.bt.ctl = 0b00#2 → ∀ u, exec .aMode s = .next u →
      (t.pin .ctl1 = .high ∧ t.pin .ctl0 = .low ∧ u.pin .ctl1 = .low ∧ u.pin .ctl0 = .high) ∨
      (t.pin .ctl0 = .high ∧ t.pin .ctl1 = .low ∧ u.pin .ctl0 = .low ∧ u.pin .ctl1 = .high))

/-- R145: D_STROBE returns the control lines to idle: the pin D_MODE raised falls, the data pins keep the data byte; the
hold delay is loaded. -/
def Obligations.DStrobeReturnsToIdle : Prop :=
  ∀ s : State, ∃ t, exec .dStrobe s = .next t ∧
    t = { s with bt := { s.bt with ctl := 0b00#2, dly := s.cfg.nDh, upc := 12 } } ∧
    (∀ line, t.pin (.d line) = s.pin (.d line)) ∧
    (s.cfg.ValidCodes → s.bt.ctl = s.cfg.ctlCodeDw →
      (s.pin .ctl0 = .high ∧ t.pin .ctl0 = .low ∧ t.pin .ctl1 = s.pin .ctl1) ∨
      (s.pin .ctl1 = .high ∧ t.pin .ctl1 = .low ∧ t.pin .ctl0 = s.pin .ctl0))

/-- 41_bus_transactor.md section 2 (the pseudocode of R132): each of the four waits counts `DLY` down by one and goes on when
it was 1, and changes nothing else; no pin changes. -/
def Obligations.WaitsCountDown : Prop :=
  ∀ s : State, 1 ≤ s.bt.dly → s.bt.dly < 2 ^ s.cfg.dlyW →
    (∃ t, exec .aSetupWait s = .next t ∧
      t = { s with bt := { s.bt with dly := s.bt.dly - 1, upc := if s.bt.dly = 1 then 5 else s.bt.upc } } ∧
      ∀ sig, t.pin sig = s.pin sig) ∧
    (∃ t, exec .aHoldWait s = .next t ∧
      t = { s with bt := { s.bt with dly := s.bt.dly - 1, upc := if s.bt.dly = 1 then 7 else s.bt.upc } } ∧
      ∀ sig, t.pin sig = s.pin sig) ∧
    (∃ t, exec .dWriteWait s = .next t ∧
      t = { s with bt := { s.bt with dly := s.bt.dly - 1, upc := if s.bt.dly = 1 then 11 else s.bt.upc } } ∧
      ∀ sig, t.pin sig = s.pin sig) ∧
    (∃ t, exec .dHoldWait s = .next t ∧
      t = { s with bt := { s.bt with dly := s.bt.dly - 1, upc := if s.bt.dly = 1 then 0 else s.bt.upc } } ∧
      ∀ sig, t.pin sig = s.pin sig)

/-- Log entry 5 (the model's choice; no rule gives `DLY` - 1 at 0, and no run reaches it): a wait executed with `DLY` = 0
wraps the register to its largest value and stays. -/
def Obligations.WaitFromZeroWraps : Prop :=
  ∀ s : State, s.bt.dly = 0 → ∀ i ∈ [Instr.aSetupWait, .aHoldWait, .dWriteWait, .dHoldWait],
    exec i s = .next { s with bt := { s.bt with dly := 2 ^ s.cfg.dlyW - 1 } }

/-- R132: a wait entered with `DLY` = N lasts exactly N ticks: `DLY` reads N, N-1, ..., 1 on them and 0 afterwards, no other
element of the Bus Transactor changes and no data or control pin does, and it leaves to the next micro-operation modulo 13,
whatever the host and the Clock Generator do. -/
def Obligations.WaitLastsExactlyItsCount : Prop :=
  ∀ (s : State) (n : Nat), s.cfg.Valid → s.bt.upc ∈ [(4 : MicroIndex), 6, 10, 12] → s.bt.dly = n → 1 ≤ n →
    n < 2 ^ s.cfg.dlyW → s.NoResetFor n →
    (∀ k, k < n → ∃ t, ticks k s = .next t ∧ t.bt = { s.bt with dly := n - k } ∧
      ∀ sig, sig ≠ .clk → t.pin sig = s.pin sig) ∧
    (∃ t, ticks n s = .next t ∧ t.bt = { s.bt with dly := 0, upc := s.bt.upc + 1 } ∧
      ∀ sig, sig ≠ .clk → t.pin sig = s.pin sig)

/-! ### What a tick can do -/

/-- 10_state.md sections 2 and 3 (R22 to R26): on a tick without reset the bus byte, the direction and the control lines are
written only by the micro-operations the spec names, with the values it names, and the operand latches only by the
acceptance of a WRITE_REGISTER. -/
def Obligations.BusElementsHaveOnlyTheirWriters : Prop :=
  ∀ s t : State, step s = .next t → s.resetAsserted = false →
    t.bt.busOut = (if s.bt.upc = 3 then s.bt.areg else if s.bt.upc = 8 then s.bt.vreg else s.bt.busOut) ∧
    t.bt.busDir = (if s.bt.upc = 1 ∨ s.bt.upc = 7 then .driver else s.bt.busDir) ∧
    t.bt.ctl = (if s.bt.upc = 2 then s.cfg.ctlCodeAl else if s.bt.upc = 9 then s.cfg.ctlCodeDw
      else if s.bt.upc = 5 ∨ s.bt.upc = 11 then 0b00#2 else s.bt.ctl) ∧
    ((t.bt.areg = s.bt.areg ∧ t.bt.vreg = s.bt.vreg ∧ ∀ a v, ¬ (s.bt.upc = 0 ∧ s.fetch = .ok (.writeRegister a v))) ∨
      (s.bt.upc = 0 ∧ s.fetch = .ok (.writeRegister t.bt.areg t.bt.vreg)))

/-- 41_bus_transactor.md section 5 (R148): the only transfers of `UPC`. -/
def Obligations.SequencerTransfersAreTheListed : Prop :=
  ∀ s t : State, step s = .next t →
    t.bt.upc =
      (if s.resetAsserted then 0
       else if s.bt.upc = 0 then
         (match s.fetch with
          | .ok (.writeRegister _ _) => 1
          | _ => 0)
       else if s.bt.upc = 4 ∨ s.bt.upc = 6 ∨ s.bt.upc = 10 ∨ s.bt.upc = 12 then
         (if s.bt.dly = 1 then s.bt.upc + 1 else s.bt.upc)
       else s.bt.upc + 1)

/-- R31: the named state is the table's function of `UPC`; a strobe is the last act of a SETUP state, after which the state is
LATCHED; the initial and the terminal state are IDLE. -/
def Obligations.NamedStatesFollowTable : Prop :=
  [0, 1, 2, 3, 4, 5, 6, 7, 8, 9, 10, 11, 12].map namedState =
    [.idle, .addressSetup, .addressSetup, .addressSetup, .addressSetup, .addressSetup, .addressLatched, .dataSetup,
      .dataSetup, .dataSetup, .dataSetup, .dataSetup, .dataLatched] ∧
  (∀ c : Config, namedState (State.resetOf c).bt.upc = .idle) ∧
  (∀ s : State, ∃ t, exec .aStrobe s = .next t ∧ t.bt.upc = 6 ∧ namedState t.bt.upc = .addressLatched) ∧
  (∀ s : State, ∃ t, exec .dStrobe s = .next t ∧ t.bt.upc = 12 ∧ namedState t.bt.upc = .dataLatched) ∧
  (∀ s : State, s.bt.dly = 1 → ∃ t, exec .dHoldWait s = .next t ∧ namedState t.bt.upc = .idle)

/-- 10_state.md section 7 (R42): within a run the mark `REFUSED` is never cleared, and it is set exactly by a second
CONFIGURE_CLOCK or a reserved word taken at the port. -/
def Obligations.RefusedMarkHasTwoCauses : Prop :=
  ∀ s t : State, step s = .next t → s.resetAsserted = false →
    (t.refused = true ↔ s.refused = true ∨ (s.fetch = .ok .configureClock ∧ s.cg.mode = .toggleOnMatch) ∨
      s.fetch = .error .reservedCommandWord)

/-- 00_scope.md section 1, 40_clock_generator.md section 3 (R3, R105): the Bus Transactor reads nothing of the Clock
Generator: two machines that differ only in the Clock Generator and the mark show the same bus after a tick. -/
def Obligations.BusIgnoresClock : Prop :=
  ∀ s₁ s₂ t₁ t₂ : State, s₁.cfg = s₂.cfg → s₁.bt = s₂.bt → s₁.host = s₂.host → s₁.resetLine = s₂.resetLine →
    step s₁ = .next t₁ → step s₂ = .next t₂ → t₁.bt = t₂.bt ∧ t₁.host = t₂.host ∧ t₁.resetLine = t₂.resetLine

/-- 40_clock_generator.md sections 3 and 4 (R105, R109, R111): on every tick without reset the Clock Generator makes its own
tick, whatever the Bus Transactor and the host do, except that the acceptance of a first CONFIGURE_CLOCK overrides it. -/
def Obligations.ClockTicksOnEveryTick : Prop :=
  ∀ s t : State, step s = .next t → s.resetAsserted = false →
    (s.fetch = .ok .configureClock ∧ s.cg.mode = .off →
      t.cg = { clkOe := true, mode := .toggleOnMatch, div := s.cfg.divider, cmp := s.cfg.compareValue, pre := 0, cnt := 0,
               clkQ := s.cg.clkQ }) ∧
    (¬ (s.fetch = .ok .configureClock ∧ s.cg.mode = .off) →
      t.cg = ClockGenerator.tick s.cfg s.cg ∧ t.cg.clkOe = s.cg.clkOe ∧ t.cg.mode = s.cg.mode ∧ t.cg.div = s.cg.div ∧
        t.cg.cmp = s.cg.cmp)

/-! ### Clock Generator -/

/-- R106: CG_TICK.  The increment of the prescaler is stated where it fits the register, which the width invariant and
`CG_PRE` < `CG_DIV` guarantee. -/
def Obligations.ClockTickFollowsDividerChain : Prop :=
  ∀ (c : Config) (g : ClockGenerator),
    (g.div = 0 → g.tick c = g) ∧
    (g.div ≠ 0 → g.pre ≠ g.div - 1 → g.pre + 1 < 2 ^ c.divW → g.tick c = { g with pre := g.pre + 1 }) ∧
    (g.div ≠ 0 → g.pre = g.div - 1 → g.cnt ≠ g.cmp → g.tick c = { g with pre := 0, cnt := (g.cnt + 1) % 2 ^ c.cntW }) ∧
    (g.div ≠ 0 → g.pre = g.div - 1 → g.cnt = g.cmp → g.mode = .toggleOnMatch →
      g.tick c = { g with pre := 0, cnt := 0, clkQ := !g.clkQ }) ∧
    (g.div ≠ 0 → g.pre = g.div - 1 → g.cnt = g.cmp → g.mode = .off →
      g.tick c = { g with pre := 0, cnt := (g.cnt + 1) % 2 ^ c.cntW })

/-- 40_clock_generator.md sections 3 and 5 (R107, R114): from any configured state whose counters are in range, the clock
output toggles exactly once in each half period of `(CG_CMP + 1) * CG_DIV` ticks and the counters come back to where they
were, so that the whole Clock Generator is back after two half periods. -/
def Obligations.ClockTogglesEveryHalfPeriod : Prop :=
  ∀ (c : Config) (g : ClockGenerator), g.mode = .toggleOnMatch → g.pre < g.div → g.cnt ≤ g.cmp → g.div < 2 ^ c.divW →
    g.cmp < 2 ^ c.cntW →
    (ClockGenerator.tick c)^[(g.cmp + 1) * g.div] g = { g with clkQ := !g.clkQ } ∧
    (ClockGenerator.tick c)^[2 * ((g.cmp + 1) * g.div)] g = g ∧
    ∃ k, k < (g.cmp + 1) * g.div ∧
      (∀ j, j ≤ k → ((ClockGenerator.tick c)^[j] g).clkQ = g.clkQ) ∧
      (∀ j, k < j → j ≤ (g.cmp + 1) * g.div → ((ClockGenerator.tick c)^[j] g).clkQ = !g.clkQ)

/-- 40_clock_generator.md section 5 (R112): the closed form of the Clock Generator `k` ticks after the tick that accepted its
configuration, and what the pin `CLK` shows, whatever the host presents meanwhile, in a run in which the mark is not set.  The
initial level and the time of the first edge are the spec's own choice (log entry 9; decision D11, and R112: "a claim should not
depend on them"). -/
def Obligations.ClockPhaseAfterConfiguration : Prop :=
  ∀ (s : State) (later : List HostMove) (k : Nat), s.cfg.Valid → s.bt.upc = 0 → s.cg.mode = .off →
    s.host = .present configureClockWord :: later → s.NoResetFor (k + 1) →
    ∃ t, ticks (k + 1) s = .next t ∧ (t.refused = false → t.cg =
      { clkOe := true, mode := .toggleOnMatch, div := s.cfg.divider, cmp := s.cfg.compareValue,
        pre := k % s.cfg.divider, cnt := (k / s.cfg.divider) % (s.cfg.compareValue + 1),
        clkQ := s.cg.clkQ ^^ decide ((k / s.cfg.halfPeriod) % 2 = 1) } ∧
      t.pin .clk = PinLevel.driven (s.cg.clkQ ^^ decide ((k / s.cfg.halfPeriod) % 2 = 1)))

/-! ### Invariants -/

/-- 41_bus_transactor.md section 6 (R152): every tick keeps the bus invariant, from every state that meets it; and across the
tick the control lines stay on legal codes, the block drives the data pins whenever a mode is asserted, the direction goes
back to input only by reset, and at most one control line changes. -/
def Obligations.StepKeepsBusInvariant : Prop :=
  ∀ s t : State, s.BusInvariant → step s = .next t →
    t.BusInvariant ∧
    (t.bt.ctl = 0b00#2 ∨ t.bt.ctl = t.cfg.ctlCodeAl ∨ t.bt.ctl = t.cfg.ctlCodeDw) ∧ t.bt.ctl ≠ 0b11#2 ∧
    (t.bt.ctl ≠ 0b00#2 → t.bt.busDir = .driver) ∧
    (s.bt.busDir = .driver → t.bt.busDir = .input → s.resetAsserted = true) ∧
    (s.bt.ctl.getLsbD 0 = t.bt.ctl.getLsbD 0 ∨ s.bt.ctl.getLsbD 1 = t.bt.ctl.getLsbD 1)

/-- 40_clock_generator.md section 5 (R113): every tick keeps the clock invariant, as long as the mark is not set. -/
def Obligations.StepKeepsClockInvariant : Prop :=
  ∀ s t : State, (s.refused = false → s.ClockInvariant) → step s = .next t → t.refused = false → t.ClockInvariant

/-- 10_state.md section 1 (R20, the width column; increments at the width of their register, log entry 5): every tick keeps
every register within its width. -/
def Obligations.StepKeepsRegisterWidths : Prop :=
  ∀ s t : State, s.WidthsRespected → step s = .next t → t.WidthsRespected

/-- 10_state.md section 11 (R50): the reset state of the machine at any record meets the invariants. -/
def Obligations.ResetStateMeetsInvariants : Prop :=
  ∀ c : Config, (State.resetOf c).BusInvariant ∧ (State.resetOf c).ClockInvariant ∧ (State.resetOf c).WidthsRespected

/-- 00_scope.md section 4, 10_state.md section 8 (R9, R43): with an injective pin map every signal is seen on its own
physical pin, and on no other. -/
def Obligations.EachSignalHasItsOwnPin : Prop :=
  ∀ s : State, s.cfg.pinMap.Injective →
    (∀ sig, s.physicalPin (pinOf s.cfg.pinMap sig) = some (s.pin sig)) ∧
    (∀ sig sig', pinOf s.cfg.pinMap sig = pinOf s.cfg.pinMap sig' → sig = sig')

/-! ### A whole write, and whole programs -/

/-- 41_bus_transactor.md section 5 (R149): the pins of one write at every tick, from the state in which it is presented to
the state in which it is over, for every address and value, with or without a running clock. -/
def Obligations.WritePinsFollowBusContract : Prop :=
  ∀ (s : State) (a v : Byte) (later : List HostMove) (k : Nat), s.cfg.Valid → s.bt.upc = 0 → s.bt.ctl = 0b00#2 →
    s.host = .present (writeRegisterWord a v) :: later → k ≤ s.cfg.writeLatency → s.NoResetFor k →
    ∃ t, ticks k s = .next t ∧
      (t.bt.ctl, t.bt.busDir, t.bt.busOut) = writePins s.cfg s.bt.busDir s.bt.busOut a v k ∧
      (t.bt.upc = 0 ↔ k = 0 ∨ k = s.cfg.writeLatency)

/-- 41_bus_transactor.md section 6 (R153, R154): the whole state when a write is over, `L` ticks after its acceptance: the Bus
Transactor as the spec says, the Clock Generator `L` ticks on, the host's later moves with its rests passed and no command
taken, and nothing else changed.  The clause on the host is about the model's input list (log entry 7). -/
def Obligations.CompletedWriteLeavesStatedState : Prop :=
  ∀ (s : State) (a v : Byte) (later : List HostMove), s.cfg.Valid → s.bt.upc = 0 →
    s.host = .present (writeRegisterWord a v) :: later → s.NoResetFor s.cfg.writeLatency →
    ticks s.cfg.writeLatency s = .next { s with
      bt := { upc := 0, areg := a, vreg := v, busOut := v, busDir := .driver, ctl := 0b00#2, dly := 0 }
      cg := (ClockGenerator.tick s.cfg)^[s.cfg.writeLatency] s.cg
      host := holdMoves^[s.cfg.writeLatency - 1] later
      resetLine := s.resetLine.drop s.cfg.writeLatency }

/-- 41_bus_transactor.md section 6 (R155), 20_memory.md section 6 (R70): from any resting state the observer's output grows by
exactly the writes of the program, in order, and at the end every command is accepted and the sequencer rests. -/
def Obligations.ObserverSeesExactlyTheWrites : Prop :=
  ∀ (program : List (Byte × Byte)) (s : State) (o : Observer), s.cfg.Valid → s.bt.upc = 0 → s.bt.ctl = 0b00#2 →
    s.host = hostOf (program.map fun w => writeRegisterWord w.1 w.2) → s.NoReset →
    ∃ t o', observedTicks (program.length * s.cfg.writeLatency) s o = some (t, o') ∧
      o'.writes = o.writes ++ program ∧ t.host = [] ∧ t.bt.upc = 0 ∧ t.bt.ctl = 0b00#2 ∧ t.refused = s.refused

/-- 70_reset_and_hazards.md sections 2 and 5, 41_bus_transactor.md section 6, 40_clock_generator.md section 5 (R194, R209,
R155, R112): at any valid record, a program that configures the clock and then writes, started from reset, ends in a final
state with the observer's output exactly the program's writes, the bus driven with the last value, and the clock in the phase
of R112.  The phase at the end of the bus run is the spec's own choice (log entries 8 and 9; R72, R112 and D11 warn against a claim
about the chip that depends on it). -/
def Obligations.ConfiguredProgramFromResetIsObserved : Prop :=
  ∀ (c : Config) (program : List (Byte × Byte)), c.Valid →
    ∃ t o, observedTicks (1 + program.length * c.writeLatency)
        ((State.resetOf c).loadProgram (configureClockWord :: program.map fun w => writeRegisterWord w.1 w.2))
        Observer.initial = some (t, o) ∧
      t.Final ∧ o.writes = program ∧
      (∀ w, program.getLast? = some w → t.dataPins = some w.2 ∧ t.bt.areg = w.1 ∧ t.bt.vreg = w.2) ∧
      t.cg = { clkOe := true, mode := .toggleOnMatch, div := c.divider, cmp := c.compareValue,
               pre := program.length * c.writeLatency % c.divider,
               cnt := (program.length * c.writeLatency / c.divider) % (c.compareValue + 1),
               clkQ := decide ((program.length * c.writeLatency / c.halfPeriod) % 2 = 1) }

/-- 70_reset_and_hazards.md section 5 (R209): the run of a program of writes is not over in any state before the one `L` ticks
after its last acceptance, so that state is the first in which it is. -/
def Obligations.ProgramRunEndsNotEarlier : Prop :=
  ∀ (program : List (Byte × Byte)) (s : State) (m : Nat), s.cfg.Valid → s.bt.upc = 0 →
    s.host = hostOf (program.map fun w => writeRegisterWord w.1 w.2) → s.NoReset →
    m < program.length * s.cfg.writeLatency → ∃ t, ticks m s = .next t ∧ ¬ t.RunOver

/-! ### The clock pin, the sequencer's progress, the host protocol -/

/-- 40_clock_generator.md section 3, 10_state.md section 8 (R108, R43): the pin `CLK` is not driven while `CLK_OE` is 0 and
carries `CLK_Q` while it is 1; no operation changes it, but that CONFIGURE_CLOCK starts to drive it.  (CG_TICK, which is no operation, changes `CLK_Q`.) -/
def Obligations.ClockPinCarriesTheOutput : Prop :=
  (∀ s : State, (s.cg.clkOe = false → s.pin .clk = .undriven) ∧
    (s.cg.clkOe = true → s.pin .clk = PinLevel.driven s.cg.clkQ)) ∧
  (∀ (i : Instr) (s t : State), exec i s = .next t →
    t.pin .clk = s.pin .clk ∨
      (i = .configureClock ∧ s.pin .clk = .undriven ∧ t.pin .clk = PinLevel.driven s.cg.clkQ))

/-- 40_clock_generator.md sections 2 and 5 (R102, R103, R114): at a valid record a configured clock whose counters are in range
has the period `2 * H`, is high for exactly half of it, and its frequency `F_SYS / (2 * H)` is within `TOL_PPM` of `F_OUT`, both
bounds multiplied out. -/
def Obligations.ConfiguredClockKeepsItsFrequency : Prop :=
  ∀ (c : Config) (g : ClockGenerator), c.Valid → g.mode = .toggleOnMatch → g.div = c.divider → g.cmp = c.compareValue →
    g.pre < g.div → g.cnt ≤ g.cmp →
    c.clockPeriod = 2 * c.halfPeriod ∧ 0 < c.halfPeriod ∧
    (ClockGenerator.tick c)^[c.halfPeriod] g = { g with clkQ := !g.clkQ } ∧
    (ClockGenerator.tick c)^[c.clockPeriod] g = g ∧
    (List.range c.clockPeriod).countP (fun j => ((ClockGenerator.tick c)^[j] g).clkQ) = c.halfPeriod ∧
    1000000 * c.fSys ≤ (1000000 + c.tolPpm) * (c.clockPeriod * c.fOut) ∧
    1000000 * (c.clockPeriod * c.fOut) ≤ 1000000 * c.fSys + c.tolPpm * (c.clockPeriod * c.fOut)

/-- 60_exceptions.md section 2, 41_bus_transactor.md section 6 (R173, R154): nothing stalls a write in progress.  From every
state that meets the bus invariant, without a reset, the sequencer rests again within fewer than `L` ticks, whatever the host
presents and whatever the clock does. -/
def Obligations.WriteInProgressReachesRest : Prop :=
  ∀ s : State, s.cfg.Valid → s.BusInvariant → s.NoResetFor s.cfg.writeLatency →
    ∃ n t, n < s.cfg.writeLatency ∧ ticks n s = .next t ∧ t.bt.upc = 0

/-- 70_reset_and_hazards.md section 5, 10_state.md section 7 (R208, R210, R42): a host that keeps the protocol and sends the two
commands only never has the mark set, over any number of ticks, and still keeps the protocol then; and a program with the clock
first, started from reset, is such a host's. -/
def Obligations.HostProtocolNeverSetsMark : Prop :=
  (∀ (n : Nat) (s : State), s.cfg.Valid → s.HostProtocol → s.SendsCommandsOnly →
    ∃ t, ticks n s = .next t ∧ t.refused = s.refused ∧ t.HostProtocol ∧ t.SendsCommandsOnly) ∧
  (∀ (c : Config) (program : List CommandWord), clockFirst program = true →
    ((State.resetOf c).loadProgram program).HostProtocol)
end

