-- ==== Sys2Proof/Laws/State.lean ====
section
/-!
SUPPORT. What each named update does to each field: one lemma per field per update, true by rfl.
-/

namespace Sys2Proof.Machine

/-! ### `BusTransactor.goto` -/

@[simp] theorem BusTransactor.goto_upc (u : MicroIndex) (b : BusTransactor) :
    (BusTransactor.goto u b).upc = u := rfl
@[simp] theorem BusTransactor.goto_areg (u : MicroIndex) (b : BusTransactor) :
    (BusTransactor.goto u b).areg = b.areg := rfl
@[simp] theorem BusTransactor.goto_vreg (u : MicroIndex) (b : BusTransactor) :
    (BusTransactor.goto u b).vreg = b.vreg := rfl
@[simp] theorem BusTransactor.goto_busOut (u : MicroIndex) (b : BusTransactor) :
    (BusTransactor.goto u b).busOut = b.busOut := rfl
@[simp] theorem BusTransactor.goto_busDir (u : MicroIndex) (b : BusTransactor) :
    (BusTransactor.goto u b).busDir = b.busDir := rfl
@[simp] theorem BusTransactor.goto_ctl (u : MicroIndex) (b : BusTransactor) :
    (BusTransactor.goto u b).ctl = b.ctl := rfl
@[simp] theorem BusTransactor.goto_dly (u : MicroIndex) (b : BusTransactor) :
    (BusTransactor.goto u b).dly = b.dly := rfl

/-! ### `BusTransactor.latchOperands` -/

@[simp] theorem BusTransactor.latchOperands_upc (a v : Byte) (b : BusTransactor) :
    (BusTransactor.latchOperands a v b).upc = b.upc := rfl
@[simp] theorem BusTransactor.latchOperands_areg (a v : Byte) (b : BusTransactor) :
    (BusTransactor.latchOperands a v b).areg = a := rfl
@[simp] theorem BusTransactor.latchOperands_vreg (a v : Byte) (b : BusTransactor) :
    (BusTransactor.latchOperands a v b).vreg = v := rfl
@[simp] theorem BusTransactor.latchOperands_busOut (a v : Byte) (b : BusTransactor) :
    (BusTransactor.latchOperands a v b).busOut = b.busOut := rfl
@[simp] theorem BusTransactor.latchOperands_busDir (a v : Byte) (b : BusTransactor) :
    (BusTransactor.latchOperands a v b).busDir = b.busDir := rfl
@[simp] theorem BusTransactor.latchOperands_ctl (a v : Byte) (b : BusTransactor) :
    (BusTransactor.latchOperands a v b).ctl = b.ctl := rfl
@[simp] theorem BusTransactor.latchOperands_dly (a v : Byte) (b : BusTransactor) :
    (BusTransactor.latchOperands a v b).dly = b.dly := rfl

/-! ### `BusTransactor.becomeDriver` -/

@[simp] theorem BusTransactor.becomeDriver_upc (b : BusTransactor) :
    b.becomeDriver.upc = b.upc := rfl
@[simp] theorem BusTransactor.becomeDriver_areg (b : BusTransactor) :
    b.becomeDriver.areg = b.areg := rfl
@[simp] theorem BusTransactor.becomeDriver_vreg (b : BusTransactor) :
    b.becomeDriver.vreg = b.vreg := rfl
@[simp] theorem BusTransactor.becomeDriver_busOut (b : BusTransactor) :
    b.becomeDriver.busOut = b.busOut := rfl
@[simp] theorem BusTransactor.becomeDriver_busDir (b : BusTransactor) :
    b.becomeDriver.busDir = .driver := rfl
@[simp] theorem BusTransactor.becomeDriver_ctl (b : BusTransactor) :
    b.becomeDriver.ctl = b.ctl := rfl
@[simp] theorem BusTransactor.becomeDriver_dly (b : BusTransactor) :
    b.becomeDriver.dly = b.dly := rfl

/-! ### `BusTransactor.putByte` -/

@[simp] theorem BusTransactor.putByte_upc (byte : Byte) (b : BusTransactor) :
    (BusTransactor.putByte byte b).upc = b.upc := rfl
@[simp] theorem BusTransactor.putByte_areg (byte : Byte) (b : BusTransactor) :
    (BusTransactor.putByte byte b).areg = b.areg := rfl
@[simp] theorem BusTransactor.putByte_vreg (byte : Byte) (b : BusTransactor) :
    (BusTransactor.putByte byte b).vreg = b.vreg := rfl
@[simp] theorem BusTransactor.putByte_busOut (byte : Byte) (b : BusTransactor) :
    (BusTransactor.putByte byte b).busOut = byte := rfl
@[simp] theorem BusTransactor.putByte_busDir (byte : Byte) (b : BusTransactor) :
    (BusTransactor.putByte byte b).busDir = b.busDir := rfl
@[simp] theorem BusTransactor.putByte_ctl (byte : Byte) (b : BusTransactor) :
    (BusTransactor.putByte byte b).ctl = b.ctl := rfl
@[simp] theorem BusTransactor.putByte_dly (byte : Byte) (b : BusTransactor) :
    (BusTransactor.putByte byte b).dly = b.dly := rfl

/-! ### `BusTransactor.assertCode` -/

@[simp] theorem BusTransactor.assertCode_upc (code : ControlCode) (b : BusTransactor) :
    (BusTransactor.assertCode code b).upc = b.upc := rfl
@[simp] theorem BusTransactor.assertCode_areg (code : ControlCode) (b : BusTransactor) :
    (BusTransactor.assertCode code b).areg = b.areg := rfl
@[simp] theorem BusTransactor.assertCode_vreg (code : ControlCode) (b : BusTransactor) :
    (BusTransactor.assertCode code b).vreg = b.vreg := rfl
@[simp] theorem BusTransactor.assertCode_busOut (code : ControlCode) (b : BusTransactor) :
    (BusTransactor.assertCode code b).busOut = b.busOut := rfl
@[simp] theorem BusTransactor.assertCode_busDir (code : ControlCode) (b : BusTransactor) :
    (BusTransactor.assertCode code b).busDir = b.busDir := rfl
@[simp] theorem BusTransactor.assertCode_ctl (code : ControlCode) (b : BusTransactor) :
    (BusTransactor.assertCode code b).ctl = code := rfl
@[simp] theorem BusTransactor.assertCode_dly (code : ControlCode) (b : BusTransactor) :
    (BusTransactor.assertCode code b).dly = b.dly := rfl

/-! ### `BusTransactor.loadDelay` -/

@[simp] theorem BusTransactor.loadDelay_upc (n : Nat) (b : BusTransactor) :
    (BusTransactor.loadDelay n b).upc = b.upc := rfl
@[simp] theorem BusTransactor.loadDelay_areg (n : Nat) (b : BusTransactor) :
    (BusTransactor.loadDelay n b).areg = b.areg := rfl
@[simp] theorem BusTransactor.loadDelay_vreg (n : Nat) (b : BusTransactor) :
    (BusTransactor.loadDelay n b).vreg = b.vreg := rfl
@[simp] theorem BusTransactor.loadDelay_busOut (n : Nat) (b : BusTransactor) :
    (BusTransactor.loadDelay n b).busOut = b.busOut := rfl
@[simp] theorem BusTransactor.loadDelay_busDir (n : Nat) (b : BusTransactor) :
    (BusTransactor.loadDelay n b).busDir = b.busDir := rfl
@[simp] theorem BusTransactor.loadDelay_ctl (n : Nat) (b : BusTransactor) :
    (BusTransactor.loadDelay n b).ctl = b.ctl := rfl
@[simp] theorem BusTransactor.loadDelay_dly (n : Nat) (b : BusTransactor) :
    (BusTransactor.loadDelay n b).dly = n := rfl

/-! ### `BusTransactor.waitTick` -/

@[simp] theorem BusTransactor.waitTick_upc (c : Config) (u : MicroIndex) (b : BusTransactor) :
    (BusTransactor.waitTick c u b).upc = if b.dly = 1 then u else b.upc := rfl
@[simp] theorem BusTransactor.waitTick_areg (c : Config) (u : MicroIndex) (b : BusTransactor) :
    (BusTransactor.waitTick c u b).areg = b.areg := rfl
@[simp] theorem BusTransactor.waitTick_vreg (c : Config) (u : MicroIndex) (b : BusTransactor) :
    (BusTransactor.waitTick c u b).vreg = b.vreg := rfl
@[simp] theorem BusTransactor.waitTick_busOut (c : Config) (u : MicroIndex) (b : BusTransactor) :
    (BusTransactor.waitTick c u b).busOut = b.busOut := rfl
@[simp] theorem BusTransactor.waitTick_busDir (c : Config) (u : MicroIndex) (b : BusTransactor) :
    (BusTransactor.waitTick c u b).busDir = b.busDir := rfl
@[simp] theorem BusTransactor.waitTick_ctl (c : Config) (u : MicroIndex) (b : BusTransactor) :
    (BusTransactor.waitTick c u b).ctl = b.ctl := rfl
@[simp] theorem BusTransactor.waitTick_dly (c : Config) (u : MicroIndex) (b : BusTransactor) :
    (BusTransactor.waitTick c u b).dly = delayPred c b.dly := rfl

/-! ### `ClockGenerator.configure` -/

@[simp] theorem ClockGenerator.configure_clkOe (c : Config) (g : ClockGenerator) :
    (ClockGenerator.configure c g).clkOe = true := rfl
@[simp] theorem ClockGenerator.configure_mode (c : Config) (g : ClockGenerator) :
    (ClockGenerator.configure c g).mode = .toggleOnMatch := rfl
@[simp] theorem ClockGenerator.configure_div (c : Config) (g : ClockGenerator) :
    (ClockGenerator.configure c g).div = c.divider := rfl
@[simp] theorem ClockGenerator.configure_cmp (c : Config) (g : ClockGenerator) :
    (ClockGenerator.configure c g).cmp = c.compareValue := rfl
@[simp] theorem ClockGenerator.configure_pre (c : Config) (g : ClockGenerator) :
    (ClockGenerator.configure c g).pre = 0 := rfl
@[simp] theorem ClockGenerator.configure_cnt (c : Config) (g : ClockGenerator) :
    (ClockGenerator.configure c g).cnt = 0 := rfl
@[simp] theorem ClockGenerator.configure_clkQ (c : Config) (g : ClockGenerator) :
    (ClockGenerator.configure c g).clkQ = g.clkQ := rfl

/-! ### `State.onBt` -/

@[simp] theorem State.onBt_cfg (f : BusTransactor → BusTransactor) (s : State) :
    (s.onBt f).cfg = s.cfg := rfl
@[simp] theorem State.onBt_bt (f : BusTransactor → BusTransactor) (s : State) :
    (s.onBt f).bt = f s.bt := rfl
@[simp] theorem State.onBt_cg (f : BusTransactor → BusTransactor) (s : State) :
    (s.onBt f).cg = s.cg := rfl
@[simp] theorem State.onBt_refused (f : BusTransactor → BusTransactor) (s : State) :
    (s.onBt f).refused = s.refused := rfl
@[simp] theorem State.onBt_host (f : BusTransactor → BusTransactor) (s : State) :
    (s.onBt f).host = s.host := rfl
@[simp] theorem State.onBt_resetLine (f : BusTransactor → BusTransactor) (s : State) :
    (s.onBt f).resetLine = s.resetLine := rfl

/-! ### `State.onCg` -/

@[simp] theorem State.onCg_cfg (f : ClockGenerator → ClockGenerator) (s : State) :
    (s.onCg f).cfg = s.cfg := rfl
@[simp] theorem State.onCg_bt (f : ClockGenerator → ClockGenerator) (s : State) :
    (s.onCg f).bt = s.bt := rfl
@[simp] theorem State.onCg_cg (f : ClockGenerator → ClockGenerator) (s : State) :
    (s.onCg f).cg = f s.cg := rfl
@[simp] theorem State.onCg_refused (f : ClockGenerator → ClockGenerator) (s : State) :
    (s.onCg f).refused = s.refused := rfl
@[simp] theorem State.onCg_host (f : ClockGenerator → ClockGenerator) (s : State) :
    (s.onCg f).host = s.host := rfl
@[simp] theorem State.onCg_resetLine (f : ClockGenerator → ClockGenerator) (s : State) :
    (s.onCg f).resetLine = s.resetLine := rfl

/-! ### `State.markRefused` -/

@[simp] theorem State.markRefused_cfg (s : State) :
    s.markRefused.cfg = s.cfg := rfl
@[simp] theorem State.markRefused_bt (s : State) :
    s.markRefused.bt = s.bt := rfl
@[simp] theorem State.markRefused_cg (s : State) :
    s.markRefused.cg = s.cg := rfl
@[simp] theorem State.markRefused_refused (s : State) :
    s.markRefused.refused = true := rfl
@[simp] theorem State.markRefused_host (s : State) :
    s.markRefused.host = s.host := rfl
@[simp] theorem State.markRefused_resetLine (s : State) :
    s.markRefused.resetLine = s.resetLine := rfl

/-! ### `State.refuseWord` -/

@[simp] theorem State.refuseWord_cfg (s : State) :
    s.refuseWord.cfg = s.cfg := rfl
@[simp] theorem State.refuseWord_bt (s : State) :
    s.refuseWord.bt = s.bt := rfl
@[simp] theorem State.refuseWord_cg (s : State) :
    s.refuseWord.cg = s.cg := rfl
@[simp] theorem State.refuseWord_refused (s : State) :
    s.refuseWord.refused = true := rfl
@[simp] theorem State.refuseWord_host (s : State) :
    s.refuseWord.host = s.host := rfl
@[simp] theorem State.refuseWord_resetLine (s : State) :
    s.refuseWord.resetLine = s.resetLine := rfl

/-! ### `State.clockTick` -/

@[simp] theorem State.clockTick_cfg (s : State) :
    s.clockTick.cfg = s.cfg := rfl
@[simp] theorem State.clockTick_bt (s : State) :
    s.clockTick.bt = s.bt := rfl
@[simp] theorem State.clockTick_cg (s : State) :
    s.clockTick.cg = ClockGenerator.tick s.cfg s.cg := rfl
@[simp] theorem State.clockTick_refused (s : State) :
    s.clockTick.refused = s.refused := rfl
@[simp] theorem State.clockTick_host (s : State) :
    s.clockTick.host = s.host := rfl
@[simp] theorem State.clockTick_resetLine (s : State) :
    s.clockTick.resetLine = s.resetLine := rfl

/-! ### `State.beginTick` -/

@[simp] theorem State.beginTick_cfg (s : State) :
    s.beginTick.cfg = s.cfg := rfl
@[simp] theorem State.beginTick_bt (s : State) :
    s.beginTick.bt = s.bt := rfl
@[simp] theorem State.beginTick_cg (s : State) :
    s.beginTick.cg = ClockGenerator.tick s.cfg s.cg := rfl
@[simp] theorem State.beginTick_refused (s : State) :
    s.beginTick.refused = s.refused := rfl
@[simp] theorem State.beginTick_host (s : State) :
    s.beginTick.host = s.hostAfter := rfl
@[simp] theorem State.beginTick_resetLine (s : State) :
    s.beginTick.resetLine = s.resetLine.tail := rfl

/-! ### `State.takeReset` -/

@[simp] theorem State.takeReset_cfg (s : State) :
    s.takeReset.cfg = s.cfg := rfl
@[simp] theorem State.takeReset_bt (s : State) :
    s.takeReset.bt = BusTransactor.reset := rfl
@[simp] theorem State.takeReset_cg (s : State) :
    s.takeReset.cg = ClockGenerator.reset := rfl
@[simp] theorem State.takeReset_refused (s : State) :
    s.takeReset.refused = false := rfl
@[simp] theorem State.takeReset_host (s : State) :
    s.takeReset.host = holdMoves s.host := rfl
@[simp] theorem State.takeReset_resetLine (s : State) :
    s.takeReset.resetLine = s.resetLine.tail := rfl

/-! ### `State.driveCode` -/

@[simp] theorem State.driveCode_cfg (code : ControlCode) (s : State) :
    (s.driveCode code).cfg = s.cfg := rfl
@[simp] theorem State.driveCode_bt (code : ControlCode) (s : State) :
    (s.driveCode code).bt = s.bt.assertCode code := rfl
@[simp] theorem State.driveCode_cg (code : ControlCode) (s : State) :
    (s.driveCode code).cg = s.cg := rfl
@[simp] theorem State.driveCode_refused (code : ControlCode) (s : State) :
    (s.driveCode code).refused = s.refused := rfl
@[simp] theorem State.driveCode_host (code : ControlCode) (s : State) :
    (s.driveCode code).host = s.host := rfl
@[simp] theorem State.driveCode_resetLine (code : ControlCode) (s : State) :
    (s.driveCode code).resetLine = s.resetLine := rfl

/-! ### `State.startWrite` -/

@[simp] theorem State.startWrite_cfg (a v : Byte) (s : State) :
    (s.startWrite a v).cfg = s.cfg := rfl
@[simp] theorem State.startWrite_bt (a v : Byte) (s : State) :
    (s.startWrite a v).bt = (s.bt.latchOperands a v).goto 1 := rfl
@[simp] theorem State.startWrite_cg (a v : Byte) (s : State) :
    (s.startWrite a v).cg = s.cg := rfl
@[simp] theorem State.startWrite_refused (a v : Byte) (s : State) :
    (s.startWrite a v).refused = s.refused := rfl
@[simp] theorem State.startWrite_host (a v : Byte) (s : State) :
    (s.startWrite a v).host = s.host := rfl
@[simp] theorem State.startWrite_resetLine (a v : Byte) (s : State) :
    (s.startWrite a v).resetLine = s.resetLine := rfl

/-! ### `State.takeBus` -/

@[simp] theorem State.takeBus_cfg (u : MicroIndex) (s : State) :
    (s.takeBus u).cfg = s.cfg := rfl
@[simp] theorem State.takeBus_bt (u : MicroIndex) (s : State) :
    (s.takeBus u).bt = s.bt.becomeDriver.goto u := rfl
@[simp] theorem State.takeBus_cg (u : MicroIndex) (s : State) :
    (s.takeBus u).cg = s.cg := rfl
@[simp] theorem State.takeBus_refused (u : MicroIndex) (s : State) :
    (s.takeBus u).refused = s.refused := rfl
@[simp] theorem State.takeBus_host (u : MicroIndex) (s : State) :
    (s.takeBus u).host = s.host := rfl
@[simp] theorem State.takeBus_resetLine (u : MicroIndex) (s : State) :
    (s.takeBus u).resetLine = s.resetLine := rfl

/-! ### `State.assertMode` -/

@[simp] theorem State.assertMode_cfg (p : Phase) (u : MicroIndex) (s : State) :
    (s.assertMode p u).cfg = s.cfg := rfl
@[simp] theorem State.assertMode_bt (p : Phase) (u : MicroIndex) (s : State) :
    (s.assertMode p u).bt = (s.bt.assertCode (p.code s.cfg)).goto u := rfl
@[simp] theorem State.assertMode_cg (p : Phase) (u : MicroIndex) (s : State) :
    (s.assertMode p u).cg = s.cg := rfl
@[simp] theorem State.assertMode_refused (p : Phase) (u : MicroIndex) (s : State) :
    (s.assertMode p u).refused = s.refused := rfl
@[simp] theorem State.assertMode_host (p : Phase) (u : MicroIndex) (s : State) :
    (s.assertMode p u).host = s.host := rfl
@[simp] theorem State.assertMode_resetLine (p : Phase) (u : MicroIndex) (s : State) :
    (s.assertMode p u).resetLine = s.resetLine := rfl

/-! ### `State.driveByte` -/

@[simp] theorem State.driveByte_cfg (p : Phase) (u : MicroIndex) (s : State) :
    (s.driveByte p u).cfg = s.cfg := rfl
@[simp] theorem State.driveByte_bt (p : Phase) (u : MicroIndex) (s : State) :
    (s.driveByte p u).bt = (s.bt.putByte (p.byte s.bt)).goto u := rfl
@[simp] theorem State.driveByte_cg (p : Phase) (u : MicroIndex) (s : State) :
    (s.driveByte p u).cg = s.cg := rfl
@[simp] theorem State.driveByte_refused (p : Phase) (u : MicroIndex) (s : State) :
    (s.driveByte p u).refused = s.refused := rfl
@[simp] theorem State.driveByte_host (p : Phase) (u : MicroIndex) (s : State) :
    (s.driveByte p u).host = s.host := rfl
@[simp] theorem State.driveByte_resetLine (p : Phase) (u : MicroIndex) (s : State) :
    (s.driveByte p u).resetLine = s.resetLine := rfl

/-! ### `State.loadDelay` -/

@[simp] theorem State.loadDelay_cfg (n : Nat) (s : State) :
    (s.loadDelay n).cfg = s.cfg := rfl
@[simp] theorem State.loadDelay_bt (n : Nat) (s : State) :
    (s.loadDelay n).bt = s.bt.loadDelay n := rfl
@[simp] theorem State.loadDelay_cg (n : Nat) (s : State) :
    (s.loadDelay n).cg = s.cg := rfl
@[simp] theorem State.loadDelay_refused (n : Nat) (s : State) :
    (s.loadDelay n).refused = s.refused := rfl
@[simp] theorem State.loadDelay_host (n : Nat) (s : State) :
    (s.loadDelay n).host = s.host := rfl
@[simp] theorem State.loadDelay_resetLine (n : Nat) (s : State) :
    (s.loadDelay n).resetLine = s.resetLine := rfl

/-! ### `State.strobe` -/

@[simp] theorem State.strobe_cfg (p : Phase) (u : MicroIndex) (s : State) :
    (s.strobe p u).cfg = s.cfg := rfl
@[simp] theorem State.strobe_bt (p : Phase) (u : MicroIndex) (s : State) :
    (s.strobe p u).bt = ((s.bt.assertCode idleCode).goto u).loadDelay (p.holdTicks s.cfg) := rfl
@[simp] theorem State.strobe_cg (p : Phase) (u : MicroIndex) (s : State) :
    (s.strobe p u).cg = s.cg := rfl
@[simp] theorem State.strobe_refused (p : Phase) (u : MicroIndex) (s : State) :
    (s.strobe p u).refused = s.refused := rfl
@[simp] theorem State.strobe_host (p : Phase) (u : MicroIndex) (s : State) :
    (s.strobe p u).host = s.host := rfl
@[simp] theorem State.strobe_resetLine (p : Phase) (u : MicroIndex) (s : State) :
    (s.strobe p u).resetLine = s.resetLine := rfl

/-! ### `State.waitTick` -/

@[simp] theorem State.waitTick_cfg (u : MicroIndex) (s : State) :
    (s.waitTick u).cfg = s.cfg := rfl
@[simp] theorem State.waitTick_bt (u : MicroIndex) (s : State) :
    (s.waitTick u).bt = s.bt.waitTick s.cfg u := rfl
@[simp] theorem State.waitTick_cg (u : MicroIndex) (s : State) :
    (s.waitTick u).cg = s.cg := rfl
@[simp] theorem State.waitTick_refused (u : MicroIndex) (s : State) :
    (s.waitTick u).refused = s.refused := rfl
@[simp] theorem State.waitTick_host (u : MicroIndex) (s : State) :
    (s.waitTick u).host = s.host := rfl
@[simp] theorem State.waitTick_resetLine (u : MicroIndex) (s : State) :
    (s.waitTick u).resetLine = s.resetLine := rfl

/-! ### `State.resetOf` -/

@[simp] theorem State.resetOf_cfg (c : Config) : (State.resetOf c).cfg = c := rfl
@[simp] theorem State.resetOf_bt (c : Config) : (State.resetOf c).bt = BusTransactor.reset := rfl
@[simp] theorem State.resetOf_cg (c : Config) : (State.resetOf c).cg = ClockGenerator.reset := rfl
@[simp] theorem State.resetOf_refused (c : Config) : (State.resetOf c).refused = false := rfl
@[simp] theorem State.resetOf_host (c : Config) : (State.resetOf c).host = [] := rfl
@[simp] theorem State.resetOf_resetLine (c : Config) : (State.resetOf c).resetLine = [] := rfl

end Sys2Proof.Machine
end

