-- ==== Sys2Proof/Laws/Ops.lean ====
section
/-!
SUPPORT. What each shared operation can do, said once: the widths and the increments, CG_TICK, the command port, one tick.
-/

namespace Sys2Proof.Machine

open Host

/-! ### Valid records -/

/-- The four parts of a valid record (R10). -/
theorem valid_iff {c : Config} : c.Valid ↔ c.ValidClock ∧ c.ValidDelay ∧ c.pinMap.Injective ∧ c.ValidCodes :=
  decide_eq_true_iff

theorem validClock_of_valid {c : Config} (h : c.Valid) : c.ValidClock := (valid_iff.mp h).1

theorem validDelay_of_valid {c : Config} (h : c.Valid) : c.ValidDelay := (valid_iff.mp h).2.1

theorem injective_of_valid {c : Config} (h : c.Valid) : c.pinMap.Injective := (valid_iff.mp h).2.2.1

theorem validCodes_of_valid {c : Config} (h : c.Valid) : c.ValidCodes := (valid_iff.mp h).2.2.2

/-! ### Widths -/

theorem lt_two_pow_bitsFor {n m : Nat} (h : n ≤ m) : n < 2 ^ bitsFor m :=
  lt_of_le_of_lt h Nat.lt_log2_self

theorem le_foldr_max_of_mem {n : Nat} {l : List Nat} (h : n ∈ l) : n ≤ l.foldr max 0 := by
  induction l with
  | nil => cases h
  | cons m l ih =>
    rcases List.mem_cons.mp h with rfl | h
    · exact le_max_left _ _
    · exact (ih h).trans (le_max_right _ _)

theorem divider_lt_two_pow_divW {c : Config} (h : c.DividerOffered) : c.divider < 2 ^ c.divW :=
  lt_two_pow_bitsFor (le_foldr_max_of_mem h.1)

theorem nAs_lt_two_pow_dlyW (c : Config) : c.nAs < 2 ^ c.dlyW :=
  lt_two_pow_bitsFor ((le_max_left _ _).trans (le_max_left _ _))

theorem nAh_lt_two_pow_dlyW (c : Config) : c.nAh < 2 ^ c.dlyW :=
  lt_two_pow_bitsFor ((le_max_right _ _).trans (le_max_left _ _))

theorem nDw_lt_two_pow_dlyW (c : Config) : c.nDw < 2 ^ c.dlyW :=
  lt_two_pow_bitsFor ((le_max_left _ _).trans (le_max_right _ _))

theorem nDh_lt_two_pow_dlyW (c : Config) : c.nDh < 2 ^ c.dlyW :=
  lt_two_pow_bitsFor ((le_max_right _ _).trans (le_max_right _ _))

/-- The delay count as R133 writes it. -/
theorem ticksOf_eq (c : Config) (ns : Nat) :
    c.ticksOf ns = max 1 ((ns * c.fSys + nsPerSecond - 1) / nsPerSecond) := by
  have h : nsPerSecond - 1 + ns * c.fSys = ns * c.fSys + nsPerSecond - 1 := by
    have : 1 ≤ nsPerSecond := by decide
    generalize nsPerSecond = n at *
    omega
  rw [Config.ticksOf, h]

theorem one_le_ticksOf (c : Config) (ns : Nat) : 1 ≤ c.ticksOf ns :=
  le_max_left _ _

theorem compareValue_lt_two_pow_cntW {c : Config} (h : c.ThresholdInRange) : c.compareValue < 2 ^ c.cntW := by
  have h2 : c.threshold.toNat ≤ 2 ^ c.cntW - 1 := by
    have := h.2
    have hp : (1 : Int) ≤ 2 ^ c.cntW := by exact_mod_cast Nat.one_le_two_pow
    zify [Nat.one_le_two_pow (n := c.cntW)]
    rw [Int.toNat_of_nonneg h.1]
    exact_mod_cast this
  have h1 := Nat.one_le_two_pow (n := c.cntW)
  unfold Config.compareValue
  omega

theorem delayPred_of_pos {c : Config} {d : Nat} (h : 1 ≤ d) (hd : d < 2 ^ c.dlyW) : delayPred c d = d - 1 := by
  have : d + 2 ^ c.dlyW - 1 = (d - 1) + 2 ^ c.dlyW := by omega
  rw [delayPred, this, Nat.add_mod_right, Nat.mod_eq_of_lt (by omega)]

theorem delayPred_lt (c : Config) (d : Nat) : delayPred c d < 2 ^ c.dlyW :=
  Nat.mod_lt _ (Nat.two_pow_pos _)

theorem prescalerSucc_of_fits {c : Config} {n : Nat} (h : n + 1 < 2 ^ c.divW) : prescalerSucc c n = n + 1 :=
  Nat.mod_eq_of_lt h

theorem countSucc_of_fits {c : Config} {n : Nat} (h : n + 1 < 2 ^ c.cntW) : countSucc c n = n + 1 :=
  Nat.mod_eq_of_lt h

/-! ### CG_TICK -/

/-- CG_TICK writes only `CG_PRE`, `CG_CNT` and `CLK_Q` (R105). -/
theorem ClockGenerator.tick_frame (c : Config) (g : ClockGenerator) :
    (g.tick c).clkOe = g.clkOe ∧ (g.tick c).mode = g.mode ∧ (g.tick c).div = g.div ∧ (g.tick c).cmp = g.cmp := by
  unfold ClockGenerator.tick
  split_ifs <;> try exact ⟨rfl, rfl, rfl, rfl⟩
  split <;> exact ⟨rfl, rfl, rfl, rfl⟩

@[simp] theorem ClockGenerator.tick_clkOe (c : Config) (g : ClockGenerator) : (g.tick c).clkOe = g.clkOe :=
  (g.tick_frame c).1

@[simp] theorem ClockGenerator.tick_mode (c : Config) (g : ClockGenerator) : (g.tick c).mode = g.mode :=
  (g.tick_frame c).2.1

@[simp] theorem ClockGenerator.tick_div (c : Config) (g : ClockGenerator) : (g.tick c).div = g.div :=
  (g.tick_frame c).2.2.1

@[simp] theorem ClockGenerator.tick_cmp (c : Config) (g : ClockGenerator) : (g.tick c).cmp = g.cmp :=
  (g.tick_frame c).2.2.2

/-- The output toggles only on a compare match in the configured mode (R106). -/
theorem ClockGenerator.tick_clkQ_of_off (c : Config) {g : ClockGenerator} (h : g.mode = .off) :
    (g.tick c).clkQ = g.clkQ := by
  unfold ClockGenerator.tick
  rw [h]
  split_ifs <;> rfl

/-! ### The command port -/

/-- A micro-operation is never a command (R84). -/
theorem microOperation_ne_configureClock (u : MicroIndex) : microOperation u ≠ .configureClock := by
  fin_cases u <;> nofun

theorem microOperation_ne_writeRegister (u : MicroIndex) (a v : Byte) : microOperation u ≠ .writeRegister a v := by
  fin_cases u <;> nofun

theorem microOperation_ne_ctlReserved (u : MicroIndex) : microOperation u ≠ .ctlReserved := by
  fin_cases u <;> nofun

/-- What a tick can select (R148, R208). -/
theorem fetch_cases (s : State) :
    (s.bt.upc ≠ 0 ∧ s.fetch = .ok (microOperation s.bt.upc)) ∨
    (s.bt.upc = 0 ∧ s.presented = none ∧ s.fetch = .ok .idle) ∨
    (s.bt.upc = 0 ∧ ∃ w, s.presented = some w ∧ s.fetch = decodeCmd17 w) := by
  unfold State.fetch State.ready
  by_cases h : s.bt.upc = 0
  · right
    cases hp : s.presented with
    | none => exact .inl ⟨h, rfl, by simp [h]⟩
    | some w => exact .inr ⟨h, w, rfl, by simp [h]⟩
  · exact .inl ⟨h, by simp [h]⟩

/-- What the command decoder can answer (R89). -/
theorem decodeCmd17_cases (w : CommandWord) :
    decodeCmd17 w = .ok (.writeRegister (CommandWord.address w) (CommandWord.value w)) ∨
    decodeCmd17 w = .ok .configureClock ∨ decodeCmd17 w = .error .reservedCommandWord := by
  unfold decodeCmd17
  split_ifs
  · exact .inl rfl
  · exact .inr (.inl rfl)
  · exact .inr (.inr rfl)

/-- The one word of CONFIGURE_CLOCK (R81). -/
theorem eq_configureClockWord_of_decode {w : CommandWord} (h : decodeCmd17 w = .ok .configureClock) :
    w = configureClockWord := by
  unfold decodeCmd17 at h
  split at h
  · cases h
  · split at h
    · assumption
    · cases h

/-- A word that decodes to a write has `op` = 1 (R81). -/
theorem op_of_decode_write {w : CommandWord} {a v : Byte} (h : decodeCmd17 w = .ok (.writeRegister a v)) :
    CommandWord.op w = true := by
  unfold decodeCmd17 at h
  split at h
  · assumption
  · split at h <;> cases h

/-- A word that does not decode is neither of the two commands (R86). -/
theorem reserved_of_decode_error {w : CommandWord} {e : DecodeError} (h : decodeCmd17 w = .error e) :
    CommandWord.op w = false ∧ w ≠ configureClockWord := by
  unfold decodeCmd17 at h
  split at h
  · cases h
  · split at h
    · cases h
    · exact ⟨by simpa using ‹¬CommandWord.op w = true›, ‹_›⟩

/-- No tick selects the reserved control-line code (R86). -/
theorem fetch_ne_ctlReserved (s : State) : s.fetch ≠ .ok .ctlReserved := by
  rcases fetch_cases s with ⟨-, h⟩ | ⟨-, -, h⟩ | ⟨-, w, -, h⟩
  · rw [h]
    exact fun e => microOperation_ne_ctlReserved _ (Except.ok.inj e)
  · rw [h]
    nofun
  · rw [h]
    rcases decodeCmd17_cases w with h | h | h <;> rw [h] <;> nofun

/-! ### The host's words -/

@[simp] theorem HostMove.word?_present (w : CommandWord) : (HostMove.present w).word? = some w := rfl
@[simp] theorem HostMove.word?_rest : HostMove.rest.word? = none := rfl

/-- A tick on which nothing is accepted leaves the words to come (R157). -/
theorem words_holdMoves (moves : List HostMove) :
    (holdMoves moves).filterMap HostMove.word? = moves.filterMap HostMove.word? := by
  rcases moves with _ | ⟨_ | _, later⟩ <;> rfl

theorem commandsToCome_loadProgram (s : State) (program : List CommandWord) :
    (s.loadProgram program).commandsToCome = program := by
  simp [State.commandsToCome, State.loadProgram, hostOf, List.filterMap_map, Function.comp_def]

/-! ### Outcomes -/

/-- No operation faults, and only the reserved control-line code is refused. -/
theorem exec_next_of_ne_ctlReserved {i : Instr} (h : i ≠ .ctlReserved) (s : State) : ∃ t, exec i s = .next t := by
  cases i <;> first | exact absurd rfl h | exact ⟨_, rfl⟩

/-- What one tick can do. -/
theorem step_cases {s t : State} (h : step s = .next t) :
    s.cfg.Valid ∧
      ((s.resetAsserted = true ∧ t = s.takeReset) ∨
        (s.resetAsserted = false ∧
          ((∃ i, s.fetch = .ok i ∧ exec i s.beginTick = .next t) ∨
            (∃ e, s.fetch = .error e ∧ t = s.beginTick.refuseWord)))) := by
  unfold step at h
  split_ifs at h with hv hr
  · exact ⟨hv, .inl ⟨hr, (Outcome.next.inj h).symm⟩⟩
  · refine ⟨hv, .inr ⟨by simpa using hr, ?_⟩⟩
    split at h
    · exact .inl ⟨_, ‹_›, h⟩
    · exact .inr ⟨_, ‹_›, (Outcome.next.inj h).symm⟩

/-- A tick with `RESET` asserted. -/
theorem step_reset {s : State} (hv : s.cfg.Valid) (hr : s.resetAsserted = true) : step s = .next s.takeReset := by
  rw [step, if_pos hv, if_pos hr]

/-- A tick that selects an operation. -/
theorem step_of_fetch {s : State} {i : Instr} (hv : s.cfg.Valid) (hr : s.resetAsserted = false) (hf : s.fetch = .ok i) :
    step s = exec i s.beginTick := by
  rw [step, if_pos hv, if_neg (by simp [hr]), hf]

/-- A tick on which the port takes a reserved word. -/
theorem step_of_reserved {s : State} {e : DecodeError} (hv : s.cfg.Valid) (hr : s.resetAsserted = false)
    (hf : s.fetch = .error e) : step s = .next s.beginTick.refuseWord := by
  rw [step, if_pos hv, if_neg (by simp [hr]), hf]

/-- No operation changes the configuration record. -/
theorem exec_cfg {i : Instr} {s t : State} (h : exec i s = .next t) : t.cfg = s.cfg := by
  cases i <;>
    simp only [exec, execConfigureClock, execWriteRegister, execCtlIdle, execCtlAl, execCtlDw, execCtlReserved, execIdle,
      execADir, execAMode, execADrive, execASetupWait, execAStrobe, execAHoldWait, execDDir, execDDrive, execDMode,
      execDWriteWait, execDStrobe, execDHoldWait, Outcome.next.injEq, reduceCtorEq] at h <;>
    subst h <;> try rfl
  · unfold State.accept State.configureClock
    split
    · split <;> rfl
    · rfl
  · unfold State.accept
    split <;> rfl

/-- No operation changes what the host will present or the levels of `RESET`: the tick around it does. -/
theorem exec_inputs {i : Instr} {s t : State} (h : exec i s = .next t) : t.host = s.host ∧ t.resetLine = s.resetLine := by
  cases i <;>
    simp only [exec, execConfigureClock, execWriteRegister, execCtlIdle, execCtlAl, execCtlDw, execCtlReserved, execIdle,
      execADir, execAMode, execADrive, execASetupWait, execAStrobe, execAHoldWait, execDDir, execDDrive, execDMode,
      execDWriteWait, execDStrobe, execDHoldWait, Outcome.next.injEq, reduceCtorEq] at h <;>
    subst h <;> try exact ⟨rfl, rfl⟩
  · unfold State.accept State.configureClock
    split
    · split <;> exact ⟨rfl, rfl⟩
    · exact ⟨rfl, rfl⟩
  · unfold State.accept
    split <;> exact ⟨rfl, rfl⟩

/-! ### Acceptance -/

/-- A command presented when `READY` has its effect, else none (R131, R157). -/
theorem accept_cases (s : State) (effect : State → State) :
    (s.bt.upc = 0 ∧ s.accept effect = effect s) ∨ (s.bt.upc ≠ 0 ∧ s.accept effect = s) := by
  unfold State.accept State.ready
  by_cases h : s.bt.upc = 0 <;> simp [h]

/-! ### Ticks -/

@[simp] theorem ticks_zero (s : State) : ticks 0 s = .next s := rfl

theorem ticks_succ_of_step {s t : State} (n : Nat) (h : step s = .next t) : ticks (n + 1) s = ticks n t := by
  simp only [ticks, h]

/-- Ticks compose. -/
theorem ticks_add {s t : State} {m : Nat} (n : Nat) (h : ticks m s = .next t) : ticks (m + n) s = ticks n t := by
  induction m generalizing s with
  | zero =>
    rw [ticks_zero] at h
    cases h
    rw [Nat.zero_add]
  | succ m ih =>
    rw [Nat.succ_add]
    simp only [ticks] at h ⊢
    split at h
    · exact ih h
    · cases h
    · cases h

end Sys2Proof.Machine
end

