-- ==== Sys2Proof/Laws/PerInstr.lean ====
section
/-!
SUPPORT. Statements about each operation as syntax.  `TableRow`: its encoding at the default codes matches its row of the
opcode table (match under mask, within the width of the format).
-/

namespace Sys2Proof.Laws.TableRow

/-- Format, mask and match of an operation's row in the opcode table. -/
def row : Instr → Format × Nat × Nat
  | .configureClock => (.cmd17, 0x1FFFF, 0x00000)
  | .writeRegister _ _ => (.cmd17, 0x10000, 0x10000)
  | .ctlIdle => (.ctl2, 0x3, 0x0)
  | .ctlAl => (.ctl2, 0x3, 0x1)
  | .ctlDw => (.ctl2, 0x3, 0x2)
  | .ctlReserved => (.ctl2, 0x3, 0x3)
  | .idle => (.upc4, 0xF, 0x0)
  | .aDir => (.upc4, 0xF, 0x1)
  | .aMode => (.upc4, 0xF, 0x2)
  | .aDrive => (.upc4, 0xF, 0x3)
  | .aSetupWait => (.upc4, 0xF, 0x4)
  | .aStrobe => (.upc4, 0xF, 0x5)
  | .aHoldWait => (.upc4, 0xF, 0x6)
  | .dDir => (.upc4, 0xF, 0x7)
  | .dDrive => (.upc4, 0xF, 0x8)
  | .dMode => (.upc4, 0xF, 0x9)
  | .dWriteWait => (.upc4, 0xF, 0xA)
  | .dStrobe => (.upc4, 0xF, 0xB)
  | .dHoldWait => (.upc4, 0xF, 0xC)

/-- The encoding of `i` matches its row. -/
def Statement (i : Instr) : Prop :=
  (encode i).format = (row i).1 ∧ (encode i).word &&& (row i).2.1 = (row i).2.2 ∧
    (encode i).word < 2 ^ (row i).1.width

theorem configureClock : Statement .configureClock := by unfold Statement; decide

theorem writeRegister (address value : Byte) : Statement (.writeRegister address value) := by
  have ha := address.isLt
  have hv := value.isLt
  have hw : (encode (.writeRegister address value)).word = 2 ^ 16 + (256 * address.toNat + value.toNat) := by
    show (writeRegisterWord address value).toNat = _
    rw [writeRegisterWord, BitVec.toNat_ofNat]
    omega
  refine ⟨rfl, ?_, ?_⟩
  · show (encode (.writeRegister address value)).word &&& 2 ^ 16 = 2 ^ 16
    rw [hw, Nat.and_two_pow, Nat.testBit_two_pow_add_eq, Nat.testBit_lt_two_pow (by omega)]
    rfl
  · show (encode (.writeRegister address value)).word < 2 ^ 17
    omega

theorem ctlIdle : Statement .ctlIdle := by unfold Statement; decide
theorem ctlAl : Statement .ctlAl := by unfold Statement; decide
theorem ctlDw : Statement .ctlDw := by unfold Statement; decide
theorem ctlReserved : Statement .ctlReserved := by unfold Statement; decide
theorem idle : Statement .idle := by unfold Statement; decide
theorem aDir : Statement .aDir := by unfold Statement; decide
theorem aMode : Statement .aMode := by unfold Statement; decide
theorem aDrive : Statement .aDrive := by unfold Statement; decide
theorem aSetupWait : Statement .aSetupWait := by unfold Statement; decide
theorem aStrobe : Statement .aStrobe := by unfold Statement; decide
theorem aHoldWait : Statement .aHoldWait := by unfold Statement; decide
theorem dDir : Statement .dDir := by unfold Statement; decide
theorem dDrive : Statement .dDrive := by unfold Statement; decide
theorem dMode : Statement .dMode := by unfold Statement; decide
theorem dWriteWait : Statement .dWriteWait := by unfold Statement; decide
theorem dStrobe : Statement .dStrobe := by unfold Statement; decide
theorem dHoldWait : Statement .dHoldWait := by unfold Statement; decide

end Sys2Proof.Laws.TableRow
end

