-- ==== Sys2Proof/Laws/Step.lean ====
section
/-!
SUPPORT. One tick, case by case: the effect of each micro-operation on the Bus Transactor, the six things a tick can do, and
what a run of ticks needs of the inputs.
-/

namespace Sys2Proof.Machine

open Host

/-- What the micro-operation at an index does to the Bus Transactor (R135 to R147); it does nothing else. -/
def microEffect (u : MicroIndex) (c : Config) (b : BusTransactor) : BusTransactor :=
  match u with
  | 0 => b
  | 1 => b.becomeDriver.goto 2
  | 2 => (b.assertCode c.ctlCodeAl).goto 3
  | 3 => ((b.putByte b.areg).goto 4).loadDelay c.nAs
  | 4 => b.waitTick c 5
  | 5 => ((b.assertCode idleCode).goto 6).loadDelay c.nAh
  | 6 => b.waitTick c 7
  | 7 => b.becomeDriver.goto 8
  | 8 => (b.putByte b.vreg).goto 9
  | 9 => ((b.assertCode c.ctlCodeDw).goto 10).loadDelay c.nDw
  | 10 => b.waitTick c 11
  | 11 => ((b.assertCode idleCode).goto 12).loadDelay c.nDh
  | 12 => b.waitTick c 0

/-- A micro-operation acts on the Bus Transactor alone. -/
theorem exec_microOperation (u : MicroIndex) (s : State) :
    exec (microOperation u) s = .next (s.onBt (microEffect u s.cfg)) := by
  fin_cases u <;> rfl

/-- A tick during a write. -/
theorem step_of_busy {s : State} (hv : s.cfg.Valid) (hr : s.resetAsserted = false) (hu : s.bt.upc ≠ 0) :
    step s = .next (s.beginTick.onBt (microEffect s.bt.upc s.cfg)) := by
  have hf : s.fetch = .ok (microOperation s.bt.upc) := by simp [State.fetch, State.ready, hu]
  rw [step_of_fetch hv hr hf, exec_microOperation]
  rfl

/-- Everything one tick can do: reset; a micro-operation; rest; a first or a second configuration; the acceptance of a
write; a reserved word. -/
theorem step_inversion {s t : State} (h : step s = .next t) :
    s.cfg.Valid ∧
      ((s.resetAsserted = true ∧ t = s.takeReset) ∨
        (s.resetAsserted = false ∧
          ((s.bt.upc ≠ 0 ∧ s.fetch = .ok (microOperation s.bt.upc) ∧
              t = s.beginTick.onBt (microEffect s.bt.upc s.cfg)) ∨
            (s.bt.upc = 0 ∧ s.fetch = .ok .idle ∧ t = s.beginTick) ∨
            (s.bt.upc = 0 ∧ s.fetch = .ok .configureClock ∧ s.cg.mode = .off ∧
              t = s.beginTick.onCg (ClockGenerator.configure s.cfg)) ∨
            (s.bt.upc = 0 ∧ s.fetch = .ok .configureClock ∧ s.cg.mode = .toggleOnMatch ∧ t = s.beginTick.markRefused) ∨
            (s.bt.upc = 0 ∧ ∃ a v, s.fetch = .ok (.writeRegister a v) ∧ t = s.beginTick.startWrite a v) ∨
            (s.bt.upc = 0 ∧ s.fetch = .error .reservedCommandWord ∧ t = s.beginTick.markRefused)))) := by
  obtain ⟨hv, h' | ⟨hr, -⟩⟩ := step_cases h
  · exact ⟨hv, .inl h'⟩
  refine ⟨hv, .inr ⟨hr, ?_⟩⟩
  have accepted (hu : s.bt.upc = 0) (f : State → State) : s.beginTick.accept f = f s.beginTick := by
    simp [State.accept, State.ready, hu]
  rcases fetch_cases s with ⟨hu, hf⟩ | ⟨hu, -, hf⟩ | ⟨hu, w, -, hf⟩
  · rw [step_of_busy hv hr hu] at h
    exact .inl ⟨hu, hf, (Outcome.next.inj h).symm⟩
  · rw [step_of_fetch hv hr hf] at h
    exact .inr (.inl ⟨hu, hf, (Outcome.next.inj h).symm⟩)
  · rcases decodeCmd17_cases w with hd | hd | hd <;> rw [hd] at hf
    · rw [step_of_fetch hv hr hf] at h
      have h := Outcome.next.inj h
      rw [accepted hu] at h
      exact .inr (.inr (.inr (.inr (.inl ⟨hu, _, _, hf, h.symm⟩))))
    · rw [step_of_fetch hv hr hf] at h
      have h := Outcome.next.inj h
      rw [accepted hu] at h
      cases hm : s.cg.mode with
      | off =>
        refine .inr (.inr (.inl ⟨hu, hf, rfl, ?_⟩))
        rw [← h]
        simp [State.configureClock, hm]
      | toggleOnMatch =>
        refine .inr (.inr (.inr (.inl ⟨hu, hf, rfl, ?_⟩)))
        rw [← h]
        simp [State.configureClock, hm]
    · rw [step_of_reserved hv hr hf] at h
      exact .inr (.inr (.inr (.inr (.inr ⟨hu, hf, (Outcome.next.inj h).symm⟩))))

/-- No tick changes the configuration record. -/
theorem step_cfg {s t : State} (h : step s = .next t) : t.cfg = s.cfg := by
  obtain ⟨-, ⟨-, rfl⟩ | ⟨-, ⟨-, -, rfl⟩ | ⟨-, -, rfl⟩ | ⟨-, -, -, rfl⟩ | ⟨-, -, -, rfl⟩ | ⟨-, _, _, -, rfl⟩ | ⟨-, -, rfl⟩⟩⟩ :=
    step_inversion h <;> rfl

/-- Every tick passes one level of `RESET`. -/
theorem step_resetLine {s t : State} (h : step s = .next t) : t.resetLine = s.resetLine.tail := by
  obtain ⟨-, ⟨-, rfl⟩ | ⟨-, ⟨-, -, rfl⟩ | ⟨-, -, rfl⟩ | ⟨-, -, -, rfl⟩ | ⟨-, -, -, rfl⟩ | ⟨-, _, _, -, rfl⟩ | ⟨-, -, rfl⟩⟩⟩ :=
    step_inversion h <;> rfl

theorem resetAsserted_of_noResetFor {n : Nat} {s : State} (h : s.NoResetFor (n + 1)) : s.resetAsserted = false := by
  unfold State.resetAsserted
  cases hl : s.resetLine with
  | nil => rfl
  | cons b l => exact h b (by simp [hl])

theorem noResetFor_after {n : Nat} {s t : State} (h : s.NoResetFor (n + 1)) (ht : step s = .next t) : t.NoResetFor n := by
  intro level hl
  rw [step_resetLine ht] at hl
  cases hs : s.resetLine with
  | nil => simp [hs] at hl
  | cons b l =>
    rw [hs, List.tail_cons] at hl
    exact h level (by simp [hs, hl])

theorem noResetFor_of_noReset {s : State} (n : Nat) (h : s.NoReset) : s.NoResetFor n :=
  fun level hl => h level (List.mem_of_mem_take hl)

/-- The ticks of this model are the steps of the host's machine. -/
theorem ticks_eq_run (n : Nat) (s : State) : Sys2Proof.core.run n s = ticks n s := by
  induction n generalizing s with
  | zero => rfl
  | succ n ih =>
    have hs : Sys2Proof.core.step s = step s := rfl
    simp only [Core.run, ticks, hs]
    cases step s with
    | next t => exact ih t
    | fault r => rfl
    | refused r => rfl

end Sys2Proof.Machine
end

