-- ==== Sys2Proof/Tests/Slice0.lean ====
section
/-!
SUPPORT. Named tests: each check of WellFormed refuses an ill-formed term, every row of the opcode table decodes from its word
written out by hand, each operation does on one small state what the spec's tables say, and for every statement with hypotheses a
concrete state meets them.  Expected values are those of 95_test_vectors.md, or are calculated by hand from the rule named.
-/

namespace Sys2Proof.Tests

open Sys2Proof.Machine Host

/-! ### Helpers -/

/-- SMALL1, resting, with the Bus Transactor changed. -/
def small (f : BusTransactor → BusTransactor) : State :=
  (State.resetOf Config.small1).onBt f

/-- SMALL1 in the middle of a write of 3F to 0E, driving the bus. -/
def midWrite (u : MicroIndex) (code : ControlCode) (dly : Nat) : State :=
  small fun _ => ⟨u, 0x0E#8, 0x3F#8, 0x00#8, .driver, code, dly⟩

/-- SMALL1 with a configured clock. -/
def running : State :=
  { State.resetOf Config.small1 with cg := ⟨true, .toggleOnMatch, 1, 3, 0, 3, false⟩ }

/-- Does an outcome give a next state with a property? -/
def gives (o : Outcome State Fault Refusal) (p : State → Bool) : Bool :=
  match o with
  | .next t => p t
  | .fault _ => false
  | .refused _ => false

theorem next_of_gives {o : Outcome State Fault Refusal} {p : State → Bool} (h : gives o p = true) :
    ∃ t, o = .next t ∧ p t = true := by
  cases o with
  | next t => exact ⟨t, rfl, h⟩
  | fault r => cases h
  | refused r => cases h

/-! ### WellFormed -/

theorem test_literal_256_address_refused : (SourceCommand.writeRegister 256 0).wellFormed = false := by decide
theorem test_literal_256_value_refused : (SourceCommand.writeRegister 0 256).wellFormed = false := by decide
theorem test_reserved_code_refused : Instr.ctlReserved.wellFormed = false := by decide
theorem test_literal_255_accepted : (SourceCommand.writeRegister 255 255).wellFormed = true := by decide

/-! ### Validity of records (95_test_vectors.md section 2.2) -/

/-- A record with the three clock parameters of section 2.2. -/
def clockRecord (fSys fOut divider : Nat) : Config :=
  { Config.ref16 with fSys := fSys, fOut := fOut, divider := divider }

theorem test_reference_records_valid : Config.ref16.Valid ∧ Config.small1.Valid ∧ Config.small2.Valid := by decide
theorem test_threshold_row_13 :
    (clockRecord 16000000 100 1024).threshold = 77 ∧ (clockRecord 16000000 100 1024).Valid := by decide
theorem test_threshold_negative_invalid :
    (clockRecord 16000000 20000000 1).threshold = -1 ∧ ¬ (clockRecord 16000000 20000000 1).Valid := by decide
theorem test_tie_rounds_up_invalid :
    (clockRecord 16000000 16000000 1).threshold = 0 ∧ ¬ (clockRecord 16000000 16000000 1).Valid := by decide
theorem test_threshold_over_8_bits_invalid :
    (clockRecord 16000000 31250 1).Valid ∧ (clockRecord 16000000 31128 1).threshold = 256 ∧
      ¬ (clockRecord 16000000 31128 1).Valid := by decide
theorem test_divider_not_offered_invalid : ¬ (clockRecord 16000000 2000000 2).Valid := by decide
theorem test_shared_pin_invalid :
    ¬ { Config.ref16 with pinMap := { PinMap.numbered with clk := 0 } }.Valid := by decide
theorem test_equal_codes_invalid : ¬ { Config.ref16 with ctlCodeDw := 0b01#2 }.Valid := by decide
theorem test_delay_counts : Config.ref16.nAs = 16 ∧ Config.small1.nDw = 1 ∧ Config.ref16.ticksOf 300 = 5 ∧
    Config.ref16.ticksOf 80 = 2 ∧ Config.ref16.writeLatency = 73 := by decide
theorem test_delay_corner_200kHz :
    { Config.ref16 with fSys := 200000 }.ValidDelay ∧ ¬ { Config.ref16 with fSys := 199999 }.ValidDelay := by decide

/-! ### Decoding words written out from the encoding tables -/

theorem test_decode_configureClock : decodeCmd17 0b00000000000000000#17 = .ok .configureClock := by decide
theorem test_decode_writeRegister :
    decodeCmd17 0b10000111000111111#17 = .ok (.writeRegister 0b00001110#8 0b00111111#8) := by decide
theorem test_decode_writeRegister_ones : decodeCmd17 0b11111111110101010#17 = .ok (.writeRegister 0xFF#8 0xAA#8) := by decide
theorem test_decode_reserved_words :
    decodeCmd17 0b00000000000000001#17 = .error .reservedCommandWord ∧
    decodeCmd17 0b00000000100000000#17 = .error .reservedCommandWord ∧
    decodeCmd17 0b01111111111111111#17 = .error .reservedCommandWord := by decide
theorem test_decode_control_codes :
    decode ⟨.ctl2, 0b00⟩ = .ok .ctlIdle ∧ decode ⟨.ctl2, 0b01⟩ = .ok .ctlAl ∧ decode ⟨.ctl2, 0b10⟩ = .ok .ctlDw ∧
    decode ⟨.ctl2, 0b11⟩ = .ok .ctlReserved := by decide
theorem test_decode_other_code_assignment :
    decodeWith 0b10#2 0b01#2 ⟨.ctl2, 0b01⟩ = .ok .ctlDw ∧ decodeWith 0b10#2 0b01#2 ⟨.ctl2, 0b10⟩ = .ok .ctlAl := by decide
theorem test_decode_address_phase :
    decodeUpc4 0b0000#4 = .ok .idle ∧ decodeUpc4 0b0001#4 = .ok .aDir ∧ decodeUpc4 0b0010#4 = .ok .aMode ∧
    decodeUpc4 0b0011#4 = .ok .aDrive ∧ decodeUpc4 0b0100#4 = .ok .aSetupWait ∧ decodeUpc4 0b0101#4 = .ok .aStrobe ∧
    decodeUpc4 0b0110#4 = .ok .aHoldWait := by decide
theorem test_decode_data_phase :
    decodeUpc4 0b0111#4 = .ok .dDir ∧ decodeUpc4 0b1000#4 = .ok .dDrive ∧ decodeUpc4 0b1001#4 = .ok .dMode ∧
    decodeUpc4 0b1010#4 = .ok .dWriteWait ∧ decodeUpc4 0b1011#4 = .ok .dStrobe ∧
    decodeUpc4 0b1100#4 = .ok .dHoldWait := by decide
theorem test_decode_no_micro_operation :
    decodeUpc4 0b1101#4 = .error .unreachableMicroOperation ∧ decodeUpc4 0b1110#4 = .error .unreachableMicroOperation ∧
    decodeUpc4 0b1111#4 = .error .unreachableMicroOperation := by decide
theorem test_decode_too_wide : decode ⟨.cmd17, 0x20000⟩ = .error .wordTooWide := by decide
theorem test_table_words :
    decodeTableWord 24 0x10E3F = some (.writeRegister 0x0E#8 0x3F#8) ∧ decodeTableWord 24 0 = some .configureClock ∧
    decodeTableWord 8 0xC = some .dHoldWait ∧ decodeTableWord 2 2 = some .ctlDw ∧ decodeTableWord 24 1 = none := by decide

/-! ### Text (R88) -/

theorem test_parse_write :
    parseOperands ['0', 'x', '0', 'E', ',', ' ', '6', '3', ')'] = some (.writeRegister 14 63) := rfl
theorem test_parse_write_line : parseLine (writeText ++ ['7', ',', '0', 'x', 'f', '8', ')', ' ', '#']) =
    .ok (some (.writeRegister 7 248)) := rfl
theorem test_parse_configure_and_blank :
    parseLine configureText = .ok (some .configureClock) ∧ parseLine [' ', '#', 'x'] = .ok none ∧
    parseLine ['n', 'o', 'p'] = .error .notACommand := by decide
theorem test_transcribe : transcribe (.writeRegister 7 248) = .ok 0x107F8#17 := rfl
theorem test_transcribe_out_of_range : transcribe (.writeRegister 0 256) = .error .literalOutOfRange := rfl
theorem test_transcribe_lines :
    transcribeText (configureText ++ ['\n', '#', '\n'] ++ configureText) = .ok [0x00000#17, 0x00000#17] := rfl

/-! ### One step of each operation -/

/-- 95_test_vectors.md section 2.5, REF16: the CONFIGURE_CLOCK example of R109. -/
theorem test_configureClock :
    gives (step { State.resetOf Config.ref16 with host := [.present 0x00000#17] })
      (fun t => t.cg = ⟨true, .toggleOnMatch, 1, 3, 0, 0, false⟩ && t.pin .clk = .low && t.refused = false) = true := by decide

/-- P3: the second CONFIGURE_CLOCK sets the mark while CG_TICK goes on. -/
theorem test_configureClock_second :
    gives (step { running with cg := ⟨true, .toggleOnMatch, 1, 3, 0, 0, false⟩, host := [.present 0x00000#17] })
      (fun t => t.cg = ⟨true, .toggleOnMatch, 1, 3, 0, 1, false⟩ && t.refused) = true := by decide

/-- P2, tick 0: the operands are latched and no pin changes. -/
theorem test_writeRegister :
    gives (step { State.resetOf Config.small1 with host := [.present 0x1FFAA#17] })
      (fun t => t.bt = ⟨1, 0xFF#8, 0xAA#8, 0x00#8, .input, 0b00#2, 0⟩ && t.host = []) = true := by decide

/-- Section 2.8: a command presented with `UPC` = 5 is not accepted; the strobe happens and the host keeps it. -/
theorem test_writeRegister_busy :
    gives (step { midWrite 5 0b01#2 0 with host := [.present 0x1FFAA#17] })
      (fun t => t.bt.upc = 6 && t.bt.areg = 0x0E#8 && t.host = [.present 0x1FFAA#17]) = true := by decide

/-- R86: a reserved word sets the mark and nothing else. -/
theorem test_reserved_word :
    gives (step { State.resetOf Config.small1 with host := [.present 0x00001#17] })
      (fun t => t = { State.resetOf Config.small1 with refused := true }) = true := by decide

theorem test_ctlIdle : gives (exec .ctlIdle (midWrite 5 0b01#2 0)) (fun t => t = midWrite 5 0b00#2 0) = true := by decide
theorem test_ctlAl : gives (exec .ctlAl (midWrite 2 0b00#2 0)) (fun t => t = midWrite 2 0b01#2 0) = true := by decide
theorem test_ctlDw : gives (exec .ctlDw (midWrite 9 0b00#2 0)) (fun t => t = midWrite 9 0b10#2 0) = true := by decide
theorem test_ctlReserved : exec .ctlReserved State.reset = .refused .reservedControlCode := rfl

theorem test_idle : gives (step State.reset) (fun t => t = State.reset) = true := by decide

/-- R135's example: after reset, A_DIR takes the data pins from Z to 00. -/
theorem test_aDir : gives (step (small (BusTransactor.goto 1)))
    (fun t => t.bt.upc = 2 && t.pin (.d 7) = .low && t.dataPins = some 0x00#8) = true := by decide
theorem test_aMode : gives (step (midWrite 2 0b00#2 0))
    (fun t => t = midWrite 3 0b01#2 0 && t.pin .ctl0 = .high && t.pin .ctl1 = .low) = true := by decide
/-- R137's example: `AREG` = 0E puts 0000 1110 on the data pins. -/
theorem test_aDrive : gives (step (midWrite 3 0b01#2 0))
    (fun t => t.bt.upc = 4 && t.bt.dly = 1 && t.pin (.d 3) = .high && t.pin (.d 0) = .low && t.pin (.d 4) = .low) = true := by
  decide
/-- Section 2.6: a wait with N = 3 stays on its first tick. -/
theorem test_aSetupWait_stays : gives (step { midWrite 4 0b01#2 3 with cfg := Config.ref16 })
    (fun t => t.bt.upc = 4 && t.bt.dly = 2) = true := by decide
theorem test_aSetupWait_leaves : gives (step (midWrite 4 0b01#2 1)) (fun t => t = midWrite 5 0b01#2 0) = true := by decide
theorem test_aStrobe : gives (step (midWrite 5 0b01#2 0))
    (fun t => t.bt.upc = 6 && t.bt.ctl = 0b00#2 && t.bt.dly = 1 && t.dataPins = some 0x00#8) = true := by decide
theorem test_aHoldWait : gives (step (midWrite 6 0b00#2 1)) (fun t => t = midWrite 7 0b00#2 0) = true := by decide
theorem test_dDir : gives (step (midWrite 7 0b00#2 0)) (fun t => t = midWrite 8 0b00#2 0) = true := by decide
theorem test_dDrive : gives (step (midWrite 8 0b00#2 0))
    (fun t => t.bt.upc = 9 && t.dataPins = some 0x3F#8 && t.bt.ctl = 0b00#2) = true := by decide
theorem test_dMode : gives (step (midWrite 9 0b00#2 0))
    (fun t => t.bt.upc = 10 && t.bt.dly = 1 && t.pin .ctl1 = .high && t.pin .ctl0 = .low) = true := by decide
theorem test_dWriteWait : gives (step (midWrite 10 0b10#2 1)) (fun t => t = midWrite 11 0b10#2 0) = true := by decide
theorem test_dStrobe : gives (step (midWrite 11 0b10#2 0))
    (fun t => t.bt.upc = 12 && t.bt.ctl = 0b00#2 && t.bt.dly = 1) = true := by decide
theorem test_dHoldWait : gives (step (midWrite 12 0b00#2 1)) (fun t => t = midWrite 0 0b00#2 0) = true := by decide

/-- Section 2.4, third, fifth, sixth and last rows of the CG_TICK table. -/
theorem test_clock_tick :
    ClockGenerator.tick Config.small1 ⟨true, .toggleOnMatch, 1, 3, 0, 3, false⟩ = ⟨true, .toggleOnMatch, 1, 3, 0, 0, true⟩ ∧
    ClockGenerator.tick Config.small1 ⟨true, .toggleOnMatch, 2, 3, 0, 3, false⟩ = ⟨true, .toggleOnMatch, 2, 3, 1, 3, false⟩ ∧
    ClockGenerator.tick Config.small1 ⟨true, .toggleOnMatch, 2, 3, 1, 3, false⟩ = ⟨true, .toggleOnMatch, 2, 3, 0, 0, true⟩ ∧
    ClockGenerator.tick Config.small1 ⟨true, .toggleOnMatch, 1, 3, 0, 255, false⟩ = ⟨true, .toggleOnMatch, 1, 3, 0, 0, false⟩ := by
  decide

/-- Section 2.8, reset row: the reset state next, and the observer records nothing. -/
theorem test_reset_mid_write :
    gives (step { midWrite 4 0b01#2 1 with resetLine := [true] })
      (fun t => t = State.resetOf Config.small1 &&
        Observer.initial.observe (midWrite 4 0b01#2 1) t = some Observer.initial) = true := by decide

/-- The observer at the two strobes of a write (R155). -/
theorem test_observer_strobes :
    Observer.observe ⟨none, []⟩ (midWrite 5 0b01#2 0) ((midWrite 6 0b00#2 1).onBt (BusTransactor.putByte 0x0E#8)) =
      some ⟨some 0x0E#8, []⟩ ∧
    Observer.observe ⟨some 0x0E#8, []⟩ (midWrite 11 0b10#2 0) ((midWrite 12 0b00#2 1).onBt (BusTransactor.putByte 0x3F#8)) =
      some ⟨some 0x0E#8, [(0x0E#8, 0x3F#8)]⟩ ∧
    Observer.observe Observer.initial (midWrite 5 0b11#2 0) (midWrite 6 0b00#2 1) = none := by decide

/-! ### Words placed where the next tick selects them -/

theorem test_withFetchWord_command :
    gives (step (State.reset.withFetchWord 24 0x10E3F)) (fun t => t.bt.upc = 1 && t.bt.areg = 0x0E#8 && t.bt.vreg = 0x3F#8)
      = true := by decide
theorem test_withFetchWord_micro_operation :
    gives (step (State.reset.withFetchWord 8 9)) (fun t => t.bt.upc = 10 && t.bt.ctl = 0b10#2 && t.bt.dly = 16) = true := by
  decide

/-! ### Every statement's hypotheses are met -/

theorem witness_ValidCodes_both :
    Config.ref16.ValidCodes ∧ { Config.ref16 with ctlCodeAl := 0b10#2, ctlCodeDw := 0b01#2 }.ValidCodes := by decide

theorem witness_DecodeOfEncodeIsIdentity : Config.ref16.ValidCodes := witness_ValidCodes_both.1

theorem witness_EncodeOfDecodeIsIdentity :
    Config.ref16.ValidCodes ∧ (∃ i, decodeWith 0b01#2 0b10#2 ⟨.cmd17, 0x1FFFF⟩ = .ok i) ∧
    decodeWith 0b01#2 0b10#2 ⟨.cmd17, 0x0FFFF⟩ = .error .reservedCommandWord ∧
    decodeWith 0b01#2 0b10#2 ⟨.upc4, 12⟩ = .ok .dHoldWait := by
  exact ⟨by decide, ⟨.writeRegister 0xFF#8 0xFF#8, by decide⟩, by decide, by decide⟩

theorem witness_ReservedEncodings_bus : (midWrite 4 0b01#2 1).cfg.ValidCodes ∧ (midWrite 4 0b01#2 1).BusInvariant := by decide

theorem witness_ReservedEncodings_words :
    (1#17 : CommandWord) ≠ 0 ∧ (1#17 : CommandWord).toNat < 0x10000 ∧ (0xFFFF#17 : CommandWord).toNat < 0x10000 ∧
    13 ≤ (13#4 : BitVec 4).toNat ∧ 13 ≤ (15#4 : BitVec 4).toNat := by decide

theorem witness_ReservedEncodings_port :
    { running with host := [.present 1#17] }.cfg.Valid ∧ { running with host := [.present 1#17] }.resetAsserted = false ∧
    { running with host := [.present 1#17] }.bt.upc = 0 := by decide

theorem witness_TranscribedCommands : 255 ≤ 255 ∧ (255 < 256 ∨ 255 < 0) ∧ (255 < 0 ∨ 255 < 256) := by decide

theorem witness_ResetLeavesStatedValues : State.reset = State.resetOf Config.ref16 := rfl

theorem witness_ResetInputWins :
    { midWrite 4 0b01#2 1 with host := [.present 0#17], resetLine := [true] }.cfg.Valid ∧
    { midWrite 4 0b01#2 1 with host := [.present 0#17], resetLine := [true] }.resetAsserted = true := by decide

theorem witness_ResetAbandonsWriteUnobserved :
    { midWrite 10 0b10#2 1 with resetLine := [true] }.cfg.Valid ∧ { midWrite 10 0b10#2 1 with resetLine := [true] }.BusInvariant ∧
    { midWrite 10 0b10#2 1 with resetLine := [true] }.resetAsserted = true := by decide

theorem witness_InvalidConfigurationIsRefused : ¬ (State.resetOf (clockRecord 16000000 20000000 1)).cfg.Valid := by decide

theorem witness_ThresholdIsNearestInteger : 1 ≤ Config.ref16.divider ∧ 1 ≤ Config.ref16.fOut := by decide

theorem witness_DelayCountIsLeastSufficient :
    (1 ≤ 16 ∧ 1000 * Config.ref16.fSys ≤ 16 * nsPerSecond) ∧ Config.ref16.fSys = 16000000 ∧ Config.small1.fSys = 1000000 ∧
    { Config.ref16 with fSys := 20000000 }.fSys = 20000000 := by decide

theorem witness_ValidDelaysKeepTheBusContract : Config.ref16.Valid := test_reference_records_valid.1

theorem witness_DefaultDelaysValidFrom200kHz :
    Config.ref16.tAsMinNs = 300 ∧ Config.ref16.tAhMinNs = 80 ∧ Config.ref16.tDwMinNs = 300 ∧ Config.ref16.tDwMaxNs = 10000 ∧
    Config.ref16.tDhMinNs = 80 ∧ Config.ref16.tAsUsedNs = 1000 ∧ Config.ref16.tAhUsedNs = 1000 ∧
    Config.ref16.tDwUsedNs = 1000 ∧ Config.ref16.tDhUsedNs = 1000 := by decide

/-- Valid, not reset: with `UPC` 0 or not, and each kind of host move. -/
theorem witness_StepRunsSelectedOperation :
    (running.cfg.Valid ∧ running.resetAsserted = false ∧ running.fetch = .ok .idle ∧ running.bt.upc = 0 ∧ running.host = []) ∧
    (midWrite 12 0b00#2 1).bt.upc ≠ 0 ∧ (midWrite 12 0b00#2 1).cfg.Valid ∧
    { midWrite 1 0b00#2 0 with host := [.rest] }.fetch = .ok .aDir ∧
    { running with host := [.present 0x10000#17] }.fetch = .ok (.writeRegister 0#8 0#8) := by decide

theorem witness_ValidMachineNeverStops : State.reset.cfg.Valid := test_reference_records_valid.1

theorem witness_CommandWhileBusyWaits :
    { midWrite 12 0b00#2 1 with host := [.present 0#17] }.cfg.Valid ∧
    { midWrite 12 0b00#2 1 with host := [.present 0#17] }.resetAsserted = false ∧
    { midWrite 12 0b00#2 1 with host := [.present 0#17] }.bt.upc ≠ 0 := by decide

theorem witness_FirstConfigureLoadsClock :
    (State.reset.bt.upc = 0 ∧ State.reset.cg.mode = .off) ∧ (midWrite 1 0b00#2 0).bt.upc ≠ 0 := by decide

theorem witness_SecondConfigureSetsOnlyMark : running.bt.upc = 0 ∧ running.cg.mode = .toggleOnMatch := by decide

theorem witness_WriteAcceptanceLatchesOperands : running.bt.upc = 0 ∧ (midWrite 1 0b00#2 0).bt.upc ≠ 0 := by decide

theorem witness_ControlCodes_both :
    (running.cfg.ctlCodeAl = 0b01#2 ∧ running.cfg.ctlCodeDw = 0b10#2) ∧
    { Config.ref16 with ctlCodeAl := 0b10#2, ctlCodeDw := 0b01#2 }.ctlCodeAl = 0b10#2 := by decide

theorem witness_RestingKeepsBusTransactor :
    (running.cfg.Valid ∧ running.resetAsserted = false ∧ running.bt.upc = 0 ∧ running.BusInvariant) ∧
    ∀ a v, running.fetch ≠ .ok (.writeRegister a v) :=
  ⟨by decide, fun _ _ h => by cases h⟩

/-- A_DIR, A_DRIVE, D_DIR, D_DRIVE: the block drives the bus already. -/
theorem witness_driver_before :
    (midWrite 1 0b00#2 0).bt.busDir = .driver ∧ (midWrite 3 0b01#2 0).bt.busDir = .driver ∧
    (midWrite 7 0b00#2 0).bt.busDir = .driver ∧ (midWrite 8 0b00#2 0).bt.busDir = .driver := by decide

/-- A_MODE and D_MODE from the idle code; A_STROBE and D_STROBE from their own codes. -/
theorem witness_codes_before :
    ((midWrite 2 0b00#2 0).cfg.ValidCodes ∧ (midWrite 2 0b00#2 0).bt.ctl = 0b00#2) ∧
    ((midWrite 5 0b01#2 0).cfg.ValidCodes ∧ (midWrite 5 0b01#2 0).bt.ctl = (midWrite 5 0b01#2 0).cfg.ctlCodeAl) ∧
    ((midWrite 9 0b00#2 0).cfg.ValidCodes ∧ (midWrite 9 0b00#2 0).bt.ctl = 0b00#2) ∧
    ((midWrite 11 0b10#2 0).cfg.ValidCodes ∧ (midWrite 11 0b10#2 0).bt.ctl = (midWrite 11 0b10#2 0).cfg.ctlCodeDw) := by decide

/-- `DLY` at both ends of its range. -/
theorem witness_WaitsCountDown :
    (1 ≤ (midWrite 4 0b01#2 1).bt.dly ∧ (midWrite 4 0b01#2 1).bt.dly < 2 ^ (midWrite 4 0b01#2 1).cfg.dlyW) ∧
    (1 ≤ 31 ∧ 31 < 2 ^ Config.ref16.dlyW ∧ ¬ 32 < 2 ^ Config.ref16.dlyW) := by decide

theorem witness_WaitFromZeroWraps : (midWrite 4 0b01#2 0).bt.dly = 0 := by decide

theorem witness_WaitLastsExactlyItsCount :
    { midWrite 12 0b00#2 16 with cfg := Config.ref16 }.cfg.Valid ∧
    { midWrite 12 0b00#2 16 with cfg := Config.ref16 }.bt.upc ∈ [(4 : MicroIndex), 6, 10, 12] ∧
    1 ≤ 16 ∧ 16 < 2 ^ Config.ref16.dlyW ∧ { midWrite 12 0b00#2 16 with cfg := Config.ref16 }.NoResetFor 16 := by decide

/-- A tick without reset of a running machine, for the statements about what a tick can do: on its acceptance of a write. -/
theorem witness_tick_of_acceptance :
    ∃ t, step { running with host := [.present 0x10E3F#17] } = .next t ∧
      { running with host := [.present 0x10E3F#17] }.resetAsserted = false ∧
      { running with host := [.present 0x10E3F#17] }.BusInvariant ∧ { running with host := [.present 0x10E3F#17] }.ClockInvariant ∧
      { running with host := [.present 0x10E3F#17] }.WidthsRespected ∧ t.refused = false := by
  obtain ⟨t, h, ht⟩ := next_of_gives (o := step { running with host := [.present 0x10E3F#17] })
    (p := fun t => t.refused = false) (by decide)
  exact ⟨t, h, by decide, by decide, by decide, by decide, by simpa using ht⟩

/-- A tick of each micro-operation of a write, for the same statements. -/
theorem witness_tick_of_micro_operation :
    ∃ t, step (midWrite 11 0b10#2 0) = .next t ∧ (midWrite 11 0b10#2 0).resetAsserted = false ∧
      (midWrite 11 0b10#2 0).BusInvariant ∧ (midWrite 11 0b10#2 0).ClockInvariant ∧ (midWrite 11 0b10#2 0).WidthsRespected := by
  obtain ⟨t, h, -⟩ := next_of_gives (o := step (midWrite 11 0b10#2 0)) (p := fun _ => true) (by decide)
  exact ⟨t, h, by decide, by decide, by decide, by decide⟩

/-- First configuration: the two premises of the first clause about the clock. -/
theorem witness_ClockTicksOnEveryTick :
    ({ State.reset with host := [.present 0#17] }.fetch = .ok .configureClock ∧
      { State.reset with host := [.present 0#17] }.cg.mode = .off) ∧
    ¬ (running.fetch = .ok .configureClock ∧ running.cg.mode = .off) := by decide

/-- Two machines that differ in the Clock Generator and the mark only. -/
theorem witness_BusIgnoresClock :
    (∃ t₁, step running = .next t₁) ∧ (∃ t₂, step { State.resetOf Config.small1 with refused := true } = .next t₂) ∧
    running.cfg = (State.resetOf Config.small1).cfg ∧ running.bt = (State.resetOf Config.small1).bt := by
  obtain ⟨t, h, -⟩ := next_of_gives (o := step running) (p := fun _ => true) (by decide)
  obtain ⟨u, h', -⟩ := next_of_gives (o := step { State.resetOf Config.small1 with refused := true }) (p := fun _ => true)
    (by decide)
  exact ⟨⟨t, h⟩, ⟨u, h'⟩, rfl, rfl⟩

/-- Each branch of CG_TICK, at a boundary: stopped; prescaler below its last value; no match; match in each mode. -/
theorem witness_ClockTickFollowsDividerChain :
    ClockGenerator.reset.div = 0 ∧ ((2 : Nat) ≠ 0 ∧ 0 ≠ 2 - 1 ∧ 0 + 1 < 2 ^ Config.small2.divW) ∧
    (running.cg.div ≠ 0 ∧ running.cg.pre = running.cg.div - 1 ∧ running.cg.cnt = running.cg.cmp ∧
      running.cg.mode = .toggleOnMatch) := by decide

theorem witness_ClockTogglesEveryHalfPeriod :
    running.cg.mode = .toggleOnMatch ∧ running.cg.pre < running.cg.div ∧ running.cg.cnt ≤ running.cg.cmp ∧
    running.cg.div < 2 ^ Config.small1.divW ∧ running.cg.cmp < 2 ^ Config.small1.cntW := by decide

theorem witness_ClockPhaseAfterConfiguration :
    { State.reset with host := [.present configureClockWord] }.cfg.Valid ∧
    { State.reset with host := [.present configureClockWord] }.bt.upc = 0 ∧
    { State.reset with host := [.present configureClockWord] }.cg.mode = .off ∧
    { State.reset with host := [.present configureClockWord] }.NoResetFor 100 := by decide

theorem witness_EachSignalHasItsOwnPin : State.reset.cfg.pinMap.Injective := by decide

/-- A write presented to a resting machine, with no reset: the premises of the statements about a whole write and about programs. -/
theorem witness_whole_write :
    { running with host := hostOf [writeRegisterWord 0x0E#8 0x3F#8] }.cfg.Valid ∧
    { running with host := hostOf [writeRegisterWord 0x0E#8 0x3F#8] }.bt.upc = 0 ∧
    { running with host := hostOf [writeRegisterWord 0x0E#8 0x3F#8] }.bt.ctl = 0b00#2 ∧
    { running with host := hostOf [writeRegisterWord 0x0E#8 0x3F#8] }.host = .present (writeRegisterWord 0x0E#8 0x3F#8) :: [] ∧
    { running with host := hostOf [writeRegisterWord 0x0E#8 0x3F#8] }.NoResetFor Config.small1.writeLatency ∧
    { running with host := hostOf [writeRegisterWord 0x0E#8 0x3F#8] }.NoReset ∧
    0 < ([(0x0E#8, 0x3F#8)] : List (Byte × Byte)).length * Config.small1.writeLatency := by decide

/-- The clock of `running` is configured as its record says. -/
theorem witness_ConfiguredClockKeepsItsFrequency :
    Config.small1.Valid ∧ running.cg.mode = .toggleOnMatch ∧ running.cg.div = Config.small1.divider ∧
    running.cg.cmp = Config.small1.compareValue ∧ running.cg.pre < running.cg.div ∧ running.cg.cnt ≤ running.cg.cmp := by decide

theorem witness_ClockPinCarriesTheOutput :
    State.reset.cg.clkOe = false ∧ running.cg.clkOe = true ∧
    gives (exec .configureClock State.reset) (fun t => t.pin .clk = .low && State.reset.pin .clk = .undriven) = true := by decide

theorem witness_NamedStatesFollowTable : (midWrite 12 0b00#2 1).bt.dly = 1 := rfl

/-- The first tick of a write, the farthest from rest. -/
theorem witness_WriteInProgressReachesRest :
    (midWrite 1 0b00#2 0).cfg.Valid ∧ (midWrite 1 0b00#2 0).BusInvariant ∧
    (midWrite 1 0b00#2 0).NoResetFor Config.small1.writeLatency := by decide

/-- A host about to configure and then write. -/
theorem witness_HostProtocol :
    (State.reset.loadProgram [configureClockWord, 0x10E3F#17]).cfg.Valid ∧
    (State.reset.loadProgram [configureClockWord, 0x10E3F#17]).HostProtocol ∧
    (State.reset.loadProgram [configureClockWord, 0x10E3F#17]).SendsCommandsOnly ∧
    clockFirst [configureClockWord, 0x10E3F#17] = true := by decide

/-- Broken by a second configuration, a configured clock, a write first, a write in progress, a reset to come. -/
theorem test_HostProtocol_broken :
    ¬ (State.reset.loadProgram [configureClockWord, configureClockWord]).ConfiguresAtMostOnce ∧
    ¬ (running.loadProgram [configureClockWord]).ConfiguresAtMostOnce ∧
    ¬ (State.reset.loadProgram [0x10E3F#17, configureClockWord]).ConfiguresBeforeWrites ∧
    ¬ ((midWrite 1 0b00#2 0).loadProgram [configureClockWord]).ConfiguresBeforeWrites ∧
    ¬ { State.reset with resetLine := [false, true] }.NoReset := by decide

end Sys2Proof.Tests
end

section
/-!
PROOFS. The state at rest (10_state.md): what the pins, the status values and the named state show of a state's fields, and with
it the reset state (R50) and the table of named states (R31).
-/

namespace Sys2Proof.Machine

/-! ### What is seen of a state -/

/-- R25, R43: a block that is not the driver leaves every data line undriven. -/
theorem State.pin_d_of_input {s : State} (h : s.bt.busDir = .input) (line : Fin 8) : s.pin (.d line) = .undriven := by
  simp [State.pin, h]

/-- R34, R43: without the drive enable the clock pin is not driven, whatever the flop holds. -/
theorem State.pin_clk_of_disabled {s : State} (h : s.cg.clkOe = false) : s.pin .clk = .undriven := by
  simp [State.pin, h]

/-- R26, R82: the idle code is low on both control pins. -/
theorem State.pin_ctl_of_idleCode {s : State} (h : s.bt.ctl = idleCode) : s.pin .ctl1 = .low ∧ s.pin .ctl0 = .low := by
  simp [State.pin, PinLevel.driven, idleCode, h]

/-- R32. -/
theorem State.ready_iff {s : State} : s.ready = true ↔ s.bt.upc = 0 := by
  simp [State.ready]

/-- R32. -/
theorem State.configured_eq_false_iff {s : State} : s.configured = false ↔ s.cg.mode = .off := by
  cases h : s.cg.mode <;> simp [State.configured, h]

/-- R31: IDLE is the name of one index only. -/
theorem namedState_eq_idle_iff {u : MicroIndex} : namedState u = .idle ↔ u = 0 := by
  revert u
  decide

/-! ### Reset -/

/-- Settles O6: the fields are those of the two reset constants, and each thing seen follows from the one field it shows. -/
theorem resetLeavesStatedValues : Obligations.ResetLeavesStatedValues := by
  rintro c s rfl
  obtain ⟨hctl1, hctl0⟩ := State.pin_ctl_of_idleCode (s := State.resetOf c) rfl
  refine ⟨rfl, rfl, rfl, rfl, rfl, rfl, rfl, rfl, rfl, rfl, rfl, rfl, rfl, rfl, rfl, ?data, hctl1, hctl0, ?clk, ?ready,
    ?configured, ?named⟩
  case data => exact State.pin_d_of_input rfl
  case clk => exact State.pin_clk_of_disabled rfl
  case ready => exact State.ready_iff.mpr rfl
  case configured => exact State.configured_eq_false_iff.mpr rfl
  case named => exact namedState_eq_idle_iff.mpr rfl

/-! ### Named states -/

/-- Settles O35: the table is read off row by row; the two strobes and the end of the last wait are the micro-operations 5, 11
and 12, whose effect on `UPC` `microEffect` gives. -/
theorem namedStatesFollowTable : Obligations.NamedStatesFollowTable := by
  refine ⟨?table, ?initial, ?addressStrobe, ?dataStrobe, ?terminal⟩
  case table => decide
  case initial => exact fun _ => namedState_eq_idle_iff.mpr rfl
  case addressStrobe => exact fun s => ⟨_, exec_microOperation 5 s, rfl, rfl⟩
  case dataStrobe => exact fun s => ⟨_, exec_microOperation 11 s, rfl, rfl⟩
  case terminal =>
    intro s hdly
    have hupc : (s.bt.waitTick s.cfg 0).upc = 0 := by simp [hdly]
    exact ⟨_, exec_microOperation 12 s, namedState_eq_idle_iff.mpr hupc⟩

end Sys2Proof.Machine
end

section
/-!
PROOFS. The clock generator (40_clock_generator.md): one rule per branch of CG_TICK (R106), the two outcomes of CONFIGURE_CLOCK
(R109, R110), and what an enabled clock pin shows.
-/

namespace Sys2Proof.Machine

/-! ### CG_TICK, branch by branch -/

/-- R36, R106: no clock is selected, so nothing advances. -/
theorem ClockGenerator.tick_of_stopped (c : Config) {g : ClockGenerator} (hdiv : g.div = 0) : g.tick c = g := by
  simp [ClockGenerator.tick, hdiv]

/-- R106: between two timer ticks only the prescaler advances, at the width of its register. -/
theorem ClockGenerator.tick_of_prescaling (c : Config) {g : ClockGenerator} (hdiv : g.div ≠ 0) (hpre : g.pre ≠ g.div - 1) :
    g.tick c = { g with pre := prescalerSucc c g.pre } := by
  simp [ClockGenerator.tick, hdiv, hpre]

/-- R106, R107: a compare match of a configured generator clears the counter and toggles the output. -/
theorem ClockGenerator.tick_of_toggle (c : Config) {g : ClockGenerator} (hmatch : g.CompareMatch)
    (hmode : g.mode = .toggleOnMatch) : g.tick c = { g with pre := 0, cnt := 0, clkQ := !g.clkQ } := by
  obtain ⟨⟨hdiv, hpre⟩, hcnt⟩ := hmatch
  rw [ClockGenerator.tick, if_pos hdiv, if_pos hpre, if_pos hcnt, hmode]

/-- R106: on any other timer tick, be it short of the threshold or with the mode off, the counter counts on. -/
theorem ClockGenerator.tick_of_count (c : Config) {g : ClockGenerator} (htimer : g.TimerTick)
    (hno : g.cnt ≠ g.cmp ∨ g.mode = .off) : g.tick c = { g with pre := 0, cnt := countSucc c g.cnt } := by
  obtain ⟨hdiv, hpre⟩ := htimer
  rw [ClockGenerator.tick, if_pos hdiv, if_pos hpre]
  by_cases hcnt : g.cnt = g.cmp
  · have hoff : g.mode = .off := hno.resolve_left (absurd hcnt)
    rw [if_pos hcnt, hoff]
  · rw [if_neg hcnt]

/-- Settles O39: each clause is one rule of CG_TICK; the prescaler does not wrap where its increment fits. -/
theorem clockTickFollowsDividerChain : Obligations.ClockTickFollowsDividerChain := by
  intro c g
  refine ⟨?stopped, ?prescaling, ?count, ?toggle, ?modeOff⟩
  case stopped => exact ClockGenerator.tick_of_stopped c
  case prescaling =>
    intro hdiv hpre hfits
    rw [ClockGenerator.tick_of_prescaling c hdiv hpre, prescalerSucc_of_fits hfits]
  case count => exact fun hdiv hpre hcnt => ClockGenerator.tick_of_count c ⟨hdiv, hpre⟩ (.inl hcnt)
  case toggle => exact fun hdiv hpre hcnt hmode => ClockGenerator.tick_of_toggle c ⟨⟨hdiv, hpre⟩, hcnt⟩ hmode
  case modeOff => exact fun hdiv hpre _ hmode => ClockGenerator.tick_of_count c ⟨hdiv, hpre⟩ (.inr hmode)

/-! ### CONFIGURE_CLOCK -/

/-- R208: the port takes a command at rest. -/
theorem State.accept_of_rest {s : State} (hupc : s.bt.upc = 0) (effect : State → State) : s.accept effect = effect s := by
  obtain ⟨-, haccept⟩ | ⟨hbusy, -⟩ := accept_cases s effect
  · exact haccept
  · exact absurd hupc hbusy

/-- R131, R157: during a write a command has no effect. -/
theorem State.accept_of_busy {s : State} (hupc : s.bt.upc ≠ 0) (effect : State → State) : s.accept effect = s := by
  obtain ⟨hrest, -⟩ | ⟨-, hkeep⟩ := accept_cases s effect
  · exact absurd hrest hupc
  · exact hkeep

theorem exec_configureClock (s : State) : exec .configureClock s = .next (s.accept State.configureClock) :=
  rfl

/-- R109. -/
theorem exec_configureClock_first {s : State} (hupc : s.bt.upc = 0) (hmode : s.cg.mode = .off) :
    exec .configureClock s = .next (s.onCg (ClockGenerator.configure s.cfg)) := by
  rw [exec_configureClock, State.accept_of_rest hupc, State.configureClock, hmode]

/-- R110. -/
theorem exec_configureClock_second {s : State} (hupc : s.bt.upc = 0) (hmode : s.cg.mode = .toggleOnMatch) :
    exec .configureClock s = .next s.markRefused := by
  rw [exec_configureClock, State.accept_of_rest hupc, State.configureClock, hmode]

/-- R131, R157. -/
theorem exec_configureClock_busy {s : State} (hupc : s.bt.upc ≠ 0) : exec .configureClock s = .next s := by
  rw [exec_configureClock, State.accept_of_busy hupc]

/-- R32. -/
theorem State.configured_iff {s : State} : s.configured = true ↔ s.cg.mode = .toggleOnMatch := by
  simp [State.configured]

/-- R34, R43: an enabled clock pin shows the output flop. -/
theorem State.pin_clk_of_enabled {s : State} (h : s.cg.clkOe = true) : s.pin .clk = PinLevel.driven s.cg.clkQ := by
  simp [State.pin, h]

/-- Settles O17: the next state is that of the first configuration, which enables the pin, sets the mode and leaves `UPC` and
`CLK_Q`. -/
theorem firstConfigureLoadsClock : Obligations.FirstConfigureLoadsClock := by
  intro s
  refine ⟨fun hupc hmode => ⟨_, exec_configureClock_first hupc hmode, rfl, ?ready, ?configured, ?clk⟩,
    exec_configureClock_busy⟩
  case ready => exact State.ready_iff.mpr hupc
  case configured => exact State.configured_iff.mpr rfl
  case clk => exact State.pin_clk_of_enabled rfl

/-- Settles O18: the accepted command of a configured generator is `REFUSED <- 1` alone. -/
theorem secondConfigureSetsOnlyMark : Obligations.SecondConfigureSetsOnlyMark :=
  fun _ hupc hmode => exec_configureClock_second hupc hmode

end Sys2Proof.Machine
end

section
/-!
PROOFS. The bus transactor (41_bus_transactor.md): the delay counts (R133), which pins depend on which elements, the operations
the micro-operations share and the micro-operations built from them (R135 to R145), and the ticks at rest (R147), during a write
(R157) and of a wait (R132).
-/

namespace Sys2Proof.Machine

open Host

/-! ### Delay counts -/

/-- R133: the count as a least element: it is at most `n` exactly when `n` ticks are at least one and last long enough. -/
theorem ticksOf_le_iff {c : Config} {ns n : Nat} : c.ticksOf ns ≤ n ↔ 1 ≤ n ∧ ns * c.fSys ≤ n * nsPerSecond := by
  have hpos : 0 < nsPerSecond := by decide
  rw [ticksOf_eq, ← Nat.ceilDiv_eq_add_pred_div, max_le_iff, ceilDiv_le_iff_le_mul hpos, Nat.mul_comm n]

/-- Settles O11: the three properties of the count are the two directions of `ticksOf_le_iff`. -/
theorem delayCountIsLeastSufficient : Obligations.DelayCountIsLeastSufficient := by
  refine ⟨fun c ns => ⟨one_le_ticksOf c ns, ?sufficient, ?least⟩, fun _ => ⟨rfl, rfl, rfl, rfl⟩, ?examples⟩
  case sufficient => exact (ticksOf_le_iff.mp le_rfl).2
  case least => exact fun n hn hlong => ticksOf_le_iff.mpr ⟨hn, hlong⟩
  case examples =>
    intro c
    refine ⟨fun h => ?_, fun h => ?_, fun h => ?_⟩ <;> simp [Config.ticksOf, nsPerSecond, h]

/-! ### Pins -/

/-- R25, R43: a driven data line shows its bit of the bus byte. -/
theorem State.pin_d_of_driver {s : State} (h : s.bt.busDir = .driver) (line : Fin 8) :
    s.pin (.d line) = PinLevel.driven (s.bt.busOut.getLsbD line) := by
  simp [State.pin, h]

/-- R43: the data pins depend on the direction and the bus byte alone. -/
theorem State.pin_d_congr {s t : State} (hdir : t.bt.busDir = s.bt.busDir) (hout : t.bt.busOut = s.bt.busOut)
    (line : Fin 8) : t.pin (.d line) = s.pin (.d line) := by
  simp [State.pin, hdir, hout]

/-- R43: the control pins depend on the control-line code alone. -/
theorem State.pin_ctl_congr {s t : State} (hctl : t.bt.ctl = s.bt.ctl) :
    t.pin .ctl1 = s.pin .ctl1 ∧ t.pin .ctl0 = s.pin .ctl0 := by
  simp [State.pin, hctl]

/-- R3, R43: the pins other than `CLK` show three elements of the Bus Transactor. -/
theorem State.pin_congr_of_ne_clk {s t : State} (hdir : t.bt.busDir = s.bt.busDir) (hout : t.bt.busOut = s.bt.busOut)
    (hctl : t.bt.ctl = s.bt.ctl) {sig : Signal} (hsig : sig ≠ .clk) : t.pin sig = s.pin sig := by
  cases sig with
  | d line => exact State.pin_d_congr hdir hout line
  | clk => exact absurd rfl hsig
  | ctl1 => exact (State.pin_ctl_congr hctl).1
  | ctl0 => exact (State.pin_ctl_congr hctl).2

/-- R27, R30, R43: no pin shows `DLY` or `UPC`, and only `CLK` shows anything but the Bus Transactor. -/
theorem State.pin_of_bt_eq {s t : State} {d : Nat} {u : MicroIndex} (hbt : t.bt = { s.bt with dly := d, upc := u })
    (sig : Signal) (hsig : sig ≠ .clk) : t.pin sig = s.pin sig :=
  State.pin_congr_of_ne_clk (by rw [hbt]) (by rw [hbt]) (by rw [hbt]) hsig

/-- R26, R43: the code `0b01` raises `CTL0` alone. -/
theorem State.pin_ctl_of_code01 {s : State} (h : s.bt.ctl = 0b01#2) : s.pin .ctl1 = .low ∧ s.pin .ctl0 = .high := by
  simp [State.pin, PinLevel.driven, h]

/-- R26, R43: the code `0b10` raises `CTL1` alone. -/
theorem State.pin_ctl_of_code10 {s : State} (h : s.bt.ctl = 0b10#2) : s.pin .ctl1 = .high ∧ s.pin .ctl0 = .low := by
  simp [State.pin, PinLevel.driven, h]

/-- Exactly one control pin rises from `before` to `after` (R136). -/
def OneControlPinRises (before after : State) : Prop :=
  (after.pin .ctl0 = .high ∧ before.pin .ctl0 = .low ∧ after.pin .ctl1 = before.pin .ctl1) ∨
    (after.pin .ctl1 = .high ∧ before.pin .ctl1 = .low ∧ after.pin .ctl0 = before.pin .ctl0)

/-- Exactly one control pin falls from `before` to `after` (R139). -/
def OneControlPinFalls (before after : State) : Prop :=
  (before.pin .ctl0 = .high ∧ after.pin .ctl0 = .low ∧ after.pin .ctl1 = before.pin .ctl1) ∨
    (before.pin .ctl1 = .high ∧ after.pin .ctl1 = .low ∧ after.pin .ctl0 = before.pin .ctl0)

theorem OneControlPinRises.reversed {s t : State} (h : OneControlPinRises s t) : OneControlPinFalls t s :=
  h.imp (fun ⟨hhigh, hlow, hother⟩ => ⟨hhigh, hlow, hother.symm⟩) fun ⟨hhigh, hlow, hother⟩ => ⟨hhigh, hlow, hother.symm⟩

/-- R10: either phase's code has one bit set. -/
theorem Phase.code_of_validCodes {c : Config} (h : c.ValidCodes) (p : Phase) : p.code c = 0b01#2 ∨ p.code c = 0b10#2 := by
  cases p with
  | address => exact h.imp And.left And.left
  | data => exact (h.imp And.right And.right).symm

/-- R136: the idle code has no bit set and a phase's code has one, so the two differ on one pin. -/
theorem oneControlPinRises_of_codes {s t : State} {c : Config} {p : Phase} (hcodes : c.ValidCodes)
    (hs : s.bt.ctl = idleCode) (ht : t.bt.ctl = p.code c) : OneControlPinRises s t := by
  obtain ⟨hs1, hs0⟩ := State.pin_ctl_of_idleCode hs
  rcases p.code_of_validCodes hcodes with hcode | hcode
  · obtain ⟨ht1, ht0⟩ := State.pin_ctl_of_code01 (ht.trans hcode)
    exact .inl ⟨ht0, hs0, ht1.trans hs1.symm⟩
  · obtain ⟨ht1, ht0⟩ := State.pin_ctl_of_code10 (ht.trans hcode)
    exact .inr ⟨ht1, hs1, ht0.trans hs0.symm⟩

/-! ### Shared operations and the pins -/

/-- R135, R141: taking a bus that is already driven changes no pin. -/
theorem State.pin_takeBus_of_driver {s : State} (h : s.bt.busDir = .driver) (u : MicroIndex) (sig : Signal) :
    (s.takeBus u).pin sig = s.pin sig := by
  by_cases hsig : sig = .clk
  · subst hsig
    rfl
  · exact State.pin_congr_of_ne_clk (s := s) (t := s.takeBus u) h.symm rfl rfl hsig

theorem State.pin_d_assertMode (p : Phase) (u : MicroIndex) (s : State) (line : Fin 8) :
    (s.assertMode p u).pin (.d line) = s.pin (.d line) :=
  State.pin_d_congr rfl rfl line

theorem State.pin_d_strobe (p : Phase) (u : MicroIndex) (s : State) (line : Fin 8) :
    (s.strobe p u).pin (.d line) = s.pin (.d line) :=
  State.pin_d_congr rfl rfl line

/-- R137, R142: a driver that puts a phase's byte on the bus shows it on the data pins. -/
theorem State.pin_d_driveByte {s : State} (h : s.bt.busDir = .driver) (p : Phase) (u : MicroIndex) (line : Fin 8) :
    (s.driveByte p u).pin (.d line) = PinLevel.driven ((p.byte s.bt).getLsbD line) :=
  State.pin_d_of_driver (s := s.driveByte p u) h line

theorem State.pin_ctl_driveByte (p : Phase) (u : MicroIndex) (s : State) :
    (s.driveByte p u).pin .ctl1 = s.pin .ctl1 ∧ (s.driveByte p u).pin .ctl0 = s.pin .ctl0 :=
  State.pin_ctl_congr rfl

/-- R136, R143. -/
theorem State.assertMode_raisesOneControlPin {s : State} (p : Phase) (u : MicroIndex) (hcodes : s.cfg.ValidCodes)
    (hidle : s.bt.ctl = idleCode) : OneControlPinRises s (s.assertMode p u) :=
  oneControlPinRises_of_codes (p := p) hcodes hidle rfl

/-- R139, R145. -/
theorem State.strobe_lowersOneControlPin {s : State} (p : Phase) (u : MicroIndex) (hcodes : s.cfg.ValidCodes)
    (hcode : s.bt.ctl = p.code s.cfg) : OneControlPinFalls s (s.strobe p u) :=
  (oneControlPinRises_of_codes (s := s.strobe p u) hcodes rfl hcode).reversed

/-! ### Micro-operations -/

/-- Settles O22: A_DIR is `takeBus`, after which the block is the driver of an unchanged byte. -/
theorem aDirBecomesDriver : Obligations.ADirBecomesDriver := fun s =>
  ⟨s.takeBus 2, rfl, rfl, State.pin_d_of_driver rfl, fun hdir => State.pin_takeBus_of_driver hdir 2⟩

/-- Settles O23: A_MODE is `assertMode` of the address phase. -/
theorem aModeAssertsAddressLatch : Obligations.AModeAssertsAddressLatch := fun s =>
  ⟨s.assertMode .address 3, rfl, rfl, s.pin_d_assertMode .address 3, State.assertMode_raisesOneControlPin .address 3⟩

/-- Settles O24: A_DRIVE is `driveByte` of the address phase and the load of a delay, which no pin shows. -/
theorem aDriveDrivesAddress : Obligations.ADriveDrivesAddress := fun s =>
  ⟨(s.driveByte .address 4).loadDelay s.cfg.nAs, rfl, rfl, fun hdir => State.pin_d_driveByte hdir .address 4,
    s.pin_ctl_driveByte .address 4⟩

/-- Settles O25: A_STROBE is `strobe` of the address phase. -/
theorem aStrobeReturnsToIdle : Obligations.AStrobeReturnsToIdle := fun s =>
  ⟨s.strobe .address 6, rfl, rfl, s.pin_d_strobe .address 6, State.strobe_lowersOneControlPin .address 6⟩

/-- Settles O26: D_DIR is `takeBus`. -/
theorem dDirReassertsDriver : Obligations.DDirReassertsDriver := fun s =>
  ⟨s.takeBus 8, rfl, rfl, fun hdir => State.pin_takeBus_of_driver hdir 8⟩

/-- Settles O27: D_DRIVE is `driveByte` of the data phase. -/
theorem dDriveDrivesData : Obligations.DDriveDrivesData := fun s =>
  ⟨s.driveByte .data 9, rfl, rfl, fun hdir => State.pin_d_driveByte hdir .data 9, s.pin_ctl_driveByte .data 9⟩

/-- Settles O28: D_MODE is `assertMode` of the data phase; at either assignment of the codes the two phases raise different
pins. -/
theorem dModeAssertsDataWrite : Obligations.DModeAssertsDataWrite := by
  intro s
  refine ⟨(s.assertMode .data 10).loadDelay s.cfg.nDw, rfl, rfl, s.pin_d_assertMode .data 10, ?_⟩
  intro hcodes _ u hu
  have hua : u.bt.ctl = s.cfg.ctlCodeAl := by
    rw [← Outcome.next.inj hu]
    rfl
  obtain ⟨hal, hdw⟩ | ⟨hal, hdw⟩ := hcodes
  · obtain ⟨hu1, hu0⟩ := State.pin_ctl_of_code01 (hua.trans hal)
    obtain ⟨ht1, ht0⟩ := State.pin_ctl_of_code10 (s := s.assertMode .data 10) hdw
    exact .inl ⟨ht1, ht0, hu1, hu0⟩
  · obtain ⟨hu1, hu0⟩ := State.pin_ctl_of_code10 (hua.trans hal)
    obtain ⟨ht1, ht0⟩ := State.pin_ctl_of_code01 (s := s.assertMode .data 10) hdw
    exact .inr ⟨ht0, ht1, hu0, hu1⟩

/-- Settles O29: D_STROBE is `strobe` of the data phase. -/
theorem dStrobeReturnsToIdle : Obligations.DStrobeReturnsToIdle := fun s =>
  ⟨s.strobe .data 12, rfl, rfl, s.pin_d_strobe .data 12, State.strobe_lowersOneControlPin .data 12⟩

/-! ### Ticks at rest -/

/-- R170: a machine at a valid record takes the tick, since no tick selects the one operation that is refused. -/
theorem exists_step_of_valid {s : State} (hv : s.cfg.Valid) : ∃ t, step s = .next t := by
  cases hr : s.resetAsserted with
  | true => exact ⟨_, step_reset hv hr⟩
  | false =>
    cases hf : s.fetch with
    | error e => exact ⟨_, step_of_reserved hv hr hf⟩
    | ok i =>
      have hi : i ≠ .ctlReserved := fun h => fetch_ne_ctlReserved s (hf.trans (congrArg _ h))
      rw [step_of_fetch hv hr hf]
      exact exec_next_of_ne_ctlReserved hi _

/-- R147: of all a tick can do at rest, only the acceptance of a write touches the Bus Transactor. -/
theorem step_bt_of_rest {s t : State} (h : step s = .next t) (hr : s.resetAsserted = false) (hu : s.bt.upc = 0)
    (hnw : ∀ a v, s.fetch ≠ .ok (.writeRegister a v)) : t.bt = s.bt := by
  obtain ⟨-, ⟨hr', -⟩ | ⟨-, ⟨hbusy, -⟩ | ⟨-, -, rfl⟩ | ⟨-, -, -, rfl⟩ | ⟨-, -, -, rfl⟩ | ⟨-, a, v, hf, -⟩ | ⟨-, -, rfl⟩⟩⟩ :=
    step_inversion h
  · exact absurd hr' (by simp [hr])
  · exact absurd hu hbusy
  · rfl
  · rfl
  · rfl
  · exact absurd hf (hnw a v)
  · rfl

/-- R152 (b): the bus invariant has the control lines idle at rest. -/
theorem State.BusInvariant.ctl_of_rest {s : State} (h : s.BusInvariant) (hu : s.bt.upc = 0) : s.bt.ctl = 0b00#2 := by
  rw [h.1, hu]
  rfl

/-- Settles O21: a tick at rest without an accepted write keeps the Bus Transactor, and with it every pin but `CLK`. -/
theorem restingKeepsBusTransactor : Obligations.RestingKeepsBusTransactor := by
  refine ⟨fun _ => rfl, fun s hv hr hu hnw => ?_⟩
  obtain ⟨t, ht⟩ := exists_step_of_valid hv
  have hbt : t.bt = s.bt := step_bt_of_rest ht hr hu hnw
  refine ⟨t, ht, hbt, State.pin_of_bt_eq hbt, fun hinv => ?_⟩
  rw [hbt, hinv.ctl_of_rest hu]

/-! ### Ticks during a write -/

/-- R157: during a write the port takes nothing. -/
theorem State.hostAfter_of_busy {s : State} (hu : s.bt.upc ≠ 0) : s.hostAfter = holdMoves s.host := by
  simp [State.hostAfter, State.ready, hu]

/-- R157: during a write what is presented has no part in the rest of the tick. -/
theorem State.beginTick_of_silentHost {s : State} (hu : s.bt.upc ≠ 0) :
    { s with host := [] }.beginTick = { s.beginTick with host := [] } := by
  have hhost : { s with host := [] }.hostAfter = [] := State.hostAfter_of_busy hu
  rw [State.beginTick, hhost]
  rfl

/-- Settles O16: the tick is the micro-operation's, with the host's moves held; with no host it is the same tick. -/
theorem commandWhileBusyWaits : Obligations.CommandWhileBusyWaits := by
  intro s w later hv hr hu hhost
  refine ⟨_, step_of_busy hv hr hu, ?held, ?same⟩
  case held =>
    calc s.hostAfter = holdMoves s.host := State.hostAfter_of_busy hu
      _ = s.host := by rw [hhost]; rfl
  case same =>
    rw [step_of_busy (s := { s with host := [] }) hv hr hu, State.beginTick_of_silentHost hu]
    rfl

/-! ### Waits -/

/-- R132: a wait leaves to the next index modulo 13. -/
theorem microEffect_of_wait {u : MicroIndex} (hu : u ∈ [(4 : MicroIndex), 6, 10, 12]) (c : Config) (b : BusTransactor) :
    microEffect u c b = b.waitTick c (u + 1) := by
  simp only [List.mem_cons, List.not_mem_nil, or_false] at hu
  rcases hu with rfl | rfl | rfl | rfl <;> rfl

/-- The machine is in a wait with `n` ticks of it to go, none of them with reset (R132). -/
structure State.Waiting (n : Nat) (s : State) : Prop where
  valid : s.cfg.Valid
  upc_mem : s.bt.upc ∈ [(4 : MicroIndex), 6, 10, 12]
  dly_eq : s.bt.dly = n
  fits : n < 2 ^ s.cfg.dlyW
  noReset : s.NoResetFor n

/-- R132: a tick of a wait counts down, and leaves when it was the last. -/
theorem State.Waiting.step_counts {n : Nat} {s : State} (h : s.Waiting (n + 1)) :
    ∃ t, step s = .next t ∧ t.bt = { s.bt with dly := n, upc := if n = 0 then s.bt.upc + 1 else s.bt.upc } := by
  have hu : s.bt.upc ≠ 0 := by
    intro h0
    have hmem := h.upc_mem
    rw [h0] at hmem
    exact absurd hmem (by decide)
  have hpred : delayPred s.cfg (n + 1) = n := delayPred_of_pos (by omega) h.fits
  refine ⟨_, step_of_busy h.valid (resetAsserted_of_noResetFor h.noReset) hu, ?_⟩
  rw [State.onBt_bt, State.beginTick_bt, microEffect_of_wait h.upc_mem]
  simp [BusTransactor.waitTick, h.dly_eq, hpred]

/-- R132: a tick that is not the last of a wait changes `DLY` alone. -/
theorem State.Waiting.step_stays {n : Nat} {s : State} (h : s.Waiting (n + 2)) :
    ∃ t, step s = .next t ∧ t.Waiting (n + 1) ∧ t.bt = { s.bt with dly := n + 1 } := by
  obtain ⟨t, ht, hbt⟩ := h.step_counts
  have hbt : t.bt = { s.bt with dly := n + 1 } := by simpa using hbt
  refine ⟨t, ht, ⟨?valid, ?upc, ?dly, ?fits, noResetFor_after h.noReset ht⟩, hbt⟩
  case valid => rw [step_cfg ht]; exact h.valid
  case upc => rw [hbt]; exact h.upc_mem
  case dly => rw [hbt]
  case fits =>
    have := h.fits
    rw [step_cfg ht]
    omega

/-- R132: after `k` ticks of a wait, not its last, `n + 1` are left and only `DLY` has changed. -/
theorem State.Waiting.ticks_stay {n : Nat} (k : Nat) {s : State} (h : s.Waiting (n + 1 + k)) :
    ∃ t, ticks k s = .next t ∧ t.Waiting (n + 1) ∧ t.bt = { s.bt with dly := n + 1 } := by
  induction k generalizing s with
  | zero => exact ⟨s, rfl, h, by rw [← h.dly_eq]⟩
  | succ k ih =>
    have h : s.Waiting (n + k + 2) := by convert h using 1; omega
    obtain ⟨r, hr, hwait, hrbt⟩ := h.step_stays
    obtain ⟨t, ht, htwait, htbt⟩ := ih (s := r) (by convert hwait using 1; omega)
    exact ⟨t, (ticks_succ_of_step k hr).trans ht, htwait, by rw [htbt, hrbt]⟩

/-- R132: a wait with `n + 1` ticks to go has left when they are over. -/
theorem State.Waiting.ticks_leave {n : Nat} {s : State} (h : s.Waiting (n + 1)) :
    ∃ t, ticks (n + 1) s = .next t ∧ t.bt = { s.bt with dly := 0, upc := s.bt.upc + 1 } := by
  obtain ⟨r, hr, hwait, hrbt⟩ := State.Waiting.ticks_stay (n := 0) n (by convert h using 1; omega)
  obtain ⟨t, ht, htbt⟩ := hwait.step_counts
  refine ⟨t, ?_, by simp [htbt, hrbt]⟩
  rw [ticks_add 1 hr, ticks_succ_of_step 0 ht, ticks_zero]

/-- Settles O32: a wait with `n` ticks to go stays for fewer than `n` of them and has left after `n`; the pins other than `CLK`
show elements it does not write. -/
theorem waitLastsExactlyItsCount : Obligations.WaitLastsExactlyItsCount := by
  intro s n hv hu hdly hpos hfits hnr
  have hwait : s.Waiting n := ⟨hv, hu, hdly, hfits, hnr⟩
  refine ⟨fun k hk => ?stays, ?leaves⟩
  case stays =>
    obtain ⟨t, ht, -, hbt⟩ := State.Waiting.ticks_stay (n := n - k - 1) k (by convert hwait using 1; omega)
    have hleft : n - k - 1 + 1 = n - k := by omega
    rw [hleft] at hbt
    exact ⟨t, ht, hbt, State.pin_of_bt_eq hbt⟩
  case leaves =>
    obtain ⟨m, rfl⟩ := Nat.exists_eq_add_of_le' hpos
    obtain ⟨t, ht, hbt⟩ := hwait.ticks_leave
    exact ⟨t, ht, hbt, State.pin_of_bt_eq hbt⟩

end Sys2Proof.Machine
end

section
/-!
PROOFS. Reset (70_reset_and_hazards.md section 1): the tick with `RESET` asserted (R190).
-/

namespace Sys2Proof.Machine

/-- R157, R208: a command that is not accepted stays presented. -/
@[simp] theorem holdMoves_present (w : CommandWord) (later : List HostMove) :
    holdMoves (.present w :: later) = .present w :: later := rfl

/-- Settles O7: the tick is `takeReset`, which makes the reset state of the record and holds the host's moves. -/
theorem resetInputWins : Obligations.ResetInputWins := by
  intro s hv hr
  refine ⟨s.takeReset, step_reset hv hr, ?state, ?host⟩
  case state => rfl
  case host =>
    intro w later hpresent
    rw [State.takeReset_host, hpresent, holdMoves_present]

end Sys2Proof.Machine
end

section
/-!
PROOFS. The encodings (30_encoding.md): the fields of a command word (R81), the decoder and the encoder of each format, that
they undo each other (R89), the reserved codes (R86) and the transcription of source text (R88).
-/

namespace Sys2Proof.Machine

open Host

/-! ### Command words -/

/-- R81: `op` is bit 16, the one bit of weight 0x10000. -/
theorem CommandWord.op_iff {w : CommandWord} : CommandWord.op w = true ↔ 0x10000 ≤ w.toNat := by
  have hw := w.isLt
  have hand : w.toNat &&& 2 ^ 16 = (w.toNat.testBit 16).toNat * 2 ^ 16 := Nat.and_two_pow ..
  have hbit : w.toNat.testBit 16 = decide (2 ^ 16 ≤ w.toNat) := by
    rw [Nat.testBit_eq_decide_div_mod_eq]
    apply decide_eq_decide.mpr
    omega
  rw [CommandWord.op, decide_eq_true_iff, BitVec.toNat_eq, BitVec.toNat_and]
  change w.toNat &&& 2 ^ 16 = 2 ^ 16 ↔ 2 ^ 16 ≤ w.toNat
  rw [hand, hbit]
  simp

/-- R81, R85: the field `address` is the byte of weight 256. -/
theorem CommandWord.toNat_address (w : CommandWord) : (CommandWord.address w).toNat = w.toNat / 256 % 256 := by
  simp [CommandWord.address, BitVec.extractLsb'_toNat, Nat.shiftRight_eq_div_pow]

/-- R81, R85: the field `value` is the low byte. -/
theorem CommandWord.toNat_value (w : CommandWord) : (CommandWord.value w).toNat = w.toNat % 256 := by
  simp [CommandWord.value, BitVec.extractLsb'_toNat]

/-- R81: the three fields of a write fill the word. -/
theorem toNat_writeRegisterWord (a v : Byte) :
    (writeRegisterWord a v).toNat = 0x10000 + 256 * a.toNat + v.toNat := by
  have ha := a.isLt
  have hv := v.isLt
  rw [writeRegisterWord, BitVec.toNat_ofNat]
  omega

/-- R81, R89: the word of a write decodes to the write. -/
theorem decodeCmd17_writeRegisterWord (a v : Byte) : decodeCmd17 (writeRegisterWord a v) = .ok (.writeRegister a v) := by
  have hn := toNat_writeRegisterWord a v
  have hop : CommandWord.op (writeRegisterWord a v) = true := CommandWord.op_iff.mpr (by omega)
  have haddress : CommandWord.address (writeRegisterWord a v) = a := by
    apply BitVec.eq_of_toNat_eq
    rw [CommandWord.toNat_address]
    omega
  have hvalue : CommandWord.value (writeRegisterWord a v) = v := by
    apply BitVec.eq_of_toNat_eq
    rw [CommandWord.toNat_value]
    omega
  rw [decodeCmd17, if_pos hop, haddress, hvalue]

/-- R81, R89: a word with `op` set is the word of the write of its two fields. -/
theorem writeRegisterWord_of_op {w : CommandWord} (h : CommandWord.op w = true) :
    writeRegisterWord (CommandWord.address w) (CommandWord.value w) = w := by
  have hw := w.isLt
  have hop := CommandWord.op_iff.mp h
  apply BitVec.eq_of_toNat_eq
  rw [toNat_writeRegisterWord, CommandWord.toNat_address, CommandWord.toNat_value]
  omega

/-- R81: the word of CONFIGURE_CLOCK. -/
theorem decodeCmd17_configureClockWord : decodeCmd17 configureClockWord = .ok .configureClock := by
  decide

/-- R86: the decoder rejects exactly the words with `op` clear and a low field that is not zero, and in one way. -/
theorem decodeCmd17_error_iff {w : CommandWord} {e : DecodeError} :
    decodeCmd17 w = .error e ↔ e = .reservedCommandWord ∧ 0 < w.toNat ∧ w.toNat < 0x10000 := by
  have hzero : w = 0 ↔ w.toNat = 0 := BitVec.toNat_eq
  unfold decodeCmd17
  split_ifs with hop hw
  · have hle := CommandWord.op_iff.mp hop
    constructor
    · nofun
    · omega
  · constructor
    · nofun
    · have := hzero.mp hw
      omega
  · have hlt := mt CommandWord.op_iff.mpr hop
    have hpos := mt hzero.mpr hw
    rw [Except.error.injEq]
    constructor
    · rintro rfl
      exact ⟨rfl, by omega, by omega⟩
    · exact fun h => h.1.symm

/-! ### Encoding and decoding -/

/-- R84: the encoding of a micro-operation is its index. -/
theorem encodeWith_microOperation (al dw : ControlCode) (u : MicroIndex) :
    encodeWith al dw (microOperation u) = ⟨.upc4, u⟩ := by
  fin_cases u <;> rfl

/-- R84, R89: the index of a micro-operation decodes to it. -/
theorem decodeWith_index (al dw : ControlCode) (u : MicroIndex) :
    decodeWith al dw ⟨.upc4, u⟩ = .ok (microOperation u) := by
  fin_cases u <;> rfl

/-- R81: a word of format CMD17 is decoded by the command decoder. -/
theorem decodeWith_cmd17 (al dw : ControlCode) (w : CommandWord) :
    decodeWith al dw ⟨.cmd17, w.toNat⟩ = decodeCmd17 w := by
  have hw : w.toNat < 2 ^ Format.cmd17.width := w.isLt
  simp only [decodeWith, if_pos hw, BitVec.ofNat_toNat, BitVec.setWidth_eq]

/-- R82: every word of format CTL2 decodes. -/
theorem decodeWith_ctl2 (al dw : ControlCode) (code : ControlCode) :
    decodeWith al dw ⟨.ctl2, code.toNat⟩ = .ok (decodeCtl2 al dw code) := by
  have hw : code.toNat < 2 ^ Format.ctl2.width := code.isLt
  simp only [decodeWith, if_pos hw, BitVec.ofNat_toNat, BitVec.setWidth_eq]

/-- R82: at a valid assignment the two phases' codes and the codes `0b00` and `0b11` stand each for its own row. -/
theorem decodeCtl2_codes {c : Config} (h : c.ValidCodes) :
    decodeCtl2 c.ctlCodeAl c.ctlCodeDw 0b00#2 = .ctlIdle ∧
    decodeCtl2 c.ctlCodeAl c.ctlCodeDw c.ctlCodeAl = .ctlAl ∧
    decodeCtl2 c.ctlCodeAl c.ctlCodeDw c.ctlCodeDw = .ctlDw ∧
    decodeCtl2 c.ctlCodeAl c.ctlCodeDw 0b11#2 = .ctlReserved := by
  obtain ⟨hal, hdw⟩ | ⟨hal, hdw⟩ := h <;> rw [hal, hdw] <;> decide

/-- R82, R89: at a valid assignment each of the four codes is the encoding of the row it stands for. -/
theorem encodeWith_decodeCtl2 {c : Config} (h : c.ValidCodes) (code : ControlCode) :
    encodeWith c.ctlCodeAl c.ctlCodeDw (decodeCtl2 c.ctlCodeAl c.ctlCodeDw code) = ⟨.ctl2, code.toNat⟩ := by
  obtain ⟨hal, hdw⟩ | ⟨hal, hdw⟩ := h <;> rw [hal, hdw] <;> revert code <;> decide

/-- Settles O1: a micro-operation is decoded from its index, a command by the command decoder, a control-line code by its
row. -/
theorem decodeOfEncodeIsIdentity : Obligations.DecodeOfEncodeIsIdentity := by
  intro c i hcodes
  obtain ⟨hidle, hal, hdw, hreserved⟩ := decodeCtl2_codes hcodes
  have micro (u : MicroIndex) : decodeWith c.ctlCodeAl c.ctlCodeDw
      (encodeWith c.ctlCodeAl c.ctlCodeDw (microOperation u)) = .ok (microOperation u) := by
    rw [encodeWith_microOperation, decodeWith_index]
  cases i with
  | configureClock => exact (decodeWith_cmd17 ..).trans decodeCmd17_configureClockWord
  | writeRegister a v => exact (decodeWith_cmd17 ..).trans (decodeCmd17_writeRegisterWord a v)
  | ctlIdle => exact (decodeWith_ctl2 _ _ 0b00#2).trans (congrArg _ hidle)
  | ctlAl => exact (decodeWith_ctl2 _ _ c.ctlCodeAl).trans (congrArg _ hal)
  | ctlDw => exact (decodeWith_ctl2 _ _ c.ctlCodeDw).trans (congrArg _ hdw)
  | ctlReserved => exact (decodeWith_ctl2 _ _ 0b11#2).trans (congrArg _ hreserved)
  | idle => exact micro 0
  | aDir => exact micro 1
  | aMode => exact micro 2
  | aDrive => exact micro 3
  | aSetupWait => exact micro 4
  | aStrobe => exact micro 5
  | aHoldWait => exact micro 6
  | dDir => exact micro 7
  | dDrive => exact micro 8
  | dMode => exact micro 9
  | dWriteWait => exact micro 10
  | dStrobe => exact micro 11
  | dHoldWait => exact micro 12

/-- R86: the indices 13, 14 and 15 name nothing. -/
theorem decodeUpc4_of_le {code : BitVec 4} (h : 13 ≤ code.toNat) :
    decodeUpc4 code = .error .unreachableMicroOperation :=
  dif_neg (by omega)

/-- R84: a word of format UPC4 is decoded by the index decoder. -/
theorem decodeWith_upc4 (al dw : ControlCode) (code : BitVec 4) :
    decodeWith al dw ⟨.upc4, code.toNat⟩ = decodeUpc4 code := by
  have hw : code.toNat < 2 ^ Format.upc4.width := code.isLt
  simp only [decodeWith, if_pos hw, BitVec.ofNat_toNat, BitVec.setWidth_eq]

/-- R80: a number is too wide for its format, or it is a word of one of the three. -/
theorem encoded_cases (e : Encoded) :
    2 ^ e.format.width ≤ e.word ∨ (∃ w : CommandWord, e = ⟨.cmd17, w.toNat⟩) ∨
      (∃ code : ControlCode, e = ⟨.ctl2, code.toNat⟩) ∨ ∃ code : BitVec 4, e = ⟨.upc4, code.toNat⟩ := by
  obtain ⟨f, n⟩ := e
  rcases Nat.lt_or_ge n (2 ^ f.width) with hlt | hge
  · right
    cases f with
    | cmd17 => exact .inl ⟨BitVec.ofNatLT n hlt, rfl⟩
    | ctl2 => exact .inr (.inl ⟨BitVec.ofNatLT n hlt, rfl⟩)
    | upc4 => exact .inr (.inr ⟨BitVec.ofNatLT n hlt, rfl⟩)
  · exact .inl hge

theorem decodeWith_of_tooWide (al dw : ControlCode) {e : Encoded} (h : 2 ^ e.format.width ≤ e.word) :
    decodeWith al dw e = .error .wordTooWide :=
  if_neg (by omega)

/-- R89: a command word that decodes is the encoding of its command. -/
theorem encodeWith_of_decodeCmd17 {w : CommandWord} {i : Instr} (al dw : ControlCode) (h : decodeCmd17 w = .ok i) :
    encodeWith al dw i = ⟨.cmd17, w.toNat⟩ := by
  rcases decodeCmd17_cases w with hd | hd | hd
  · obtain rfl := Except.ok.inj (h.symm.trans hd)
    show Encoded.mk .cmd17 (writeRegisterWord _ _).toNat = _
    rw [writeRegisterWord_of_op (op_of_decode_write hd)]
  · obtain rfl := Except.ok.inj (h.symm.trans hd)
    rw [eq_configureClockWord_of_decode hd]
    rfl
  · rw [hd] at h
    cases h

/-- Settles O2: format by format; the numbers too wide for theirs are rejected before any field is read. -/
theorem encodeOfDecodeIsIdentity : Obligations.EncodeOfDecodeIsIdentity := by
  intro c e hcodes
  obtain hwide | ⟨w, rfl⟩ | ⟨code, rfl⟩ | ⟨code, rfl⟩ := encoded_cases e
  case inl =>
    rw [decodeWith_of_tooWide _ _ hwide]
    exact ⟨nofun, fun _ => .inl hwide, fun _ => ⟨_, rfl⟩⟩
  case inr.inl =>
    have hw : w.toNat < 2 ^ 17 := w.isLt
    rw [decodeWith_cmd17]
    refine ⟨fun i hi => encodeWith_of_decodeCmd17 _ _ hi, ?_⟩
    simp only [decodeCmd17_error_iff, exists_eq_left, Format.width, reduceCtorEq, false_and, or_false, true_and]
    omega
  case inr.inr.inl =>
    have hw : code.toNat < 2 ^ 2 := code.isLt
    rw [decodeWith_ctl2]
    refine ⟨fun i hi => ?_, ?_⟩
    · rw [← Except.ok.inj hi, encodeWith_decodeCtl2 hcodes]
    · simp only [reduceCtorEq, exists_false, false_and, or_false, false_iff, not_le]
      exact hw
  case inr.inr.inr =>
    have hw : code.toNat < 2 ^ 4 := code.isLt
    rw [decodeWith_upc4]
    by_cases hcode : code.toNat < 13
    · have hd : decodeUpc4 code = .ok (microOperation ⟨code.toNat, hcode⟩) := dif_pos hcode
      rw [hd]
      refine ⟨fun i hi => ?_, ?_⟩
      · rw [← Except.ok.inj hi, encodeWith_microOperation]
      · simp only [reduceCtorEq, exists_false, false_and, false_or, true_and, false_iff, not_or, not_le]
        exact ⟨hw, hcode⟩
    · rw [decodeUpc4_of_le (by omega)]
      exact ⟨nofun, fun _ => .inr (.inr ⟨rfl, Nat.le_of_not_lt hcode⟩), fun _ => ⟨_, rfl⟩⟩

/-- Settles O3: the decoder run on each word. -/
theorem writtenOutWordsDecode : Obligations.WrittenOutWordsDecode := by
  refine ⟨?_, ?_, ?_, ?_, ?_, ?_, ?_, ?_⟩ <;> decide

/-! ### Reserved encodings -/

/-- R10: neither phase's code is the reserved one. -/
theorem Phase.code_ne_reserved {c : Config} (h : c.ValidCodes) (p : Phase) : p.code c ≠ 0b11#2 := by
  rcases p.code_of_validCodes h with hcode | hcode <;> rw [hcode] <;> decide

/-- R152 (a): the bus invariant has legal codes only on the control lines. -/
theorem codeAt_ne_reserved {c : Config} (h : c.ValidCodes) (u : MicroIndex) : codeAt c u ≠ 0b11#2 := by
  unfold codeAt
  split_ifs
  · exact Phase.address.code_ne_reserved h
  · exact Phase.data.code_ne_reserved h
  · decide

/-- R208: at rest a presented word is what the tick decodes. -/
theorem fetch_of_present {s : State} {w : CommandWord} {later : List HostMove} (hu : s.bt.upc = 0)
    (hhost : s.host = .present w :: later) : s.fetch = decodeCmd17 w := by
  simp [State.fetch, State.ready, State.presented, hu, hhost]

/-- R208: at rest the port takes the host's next move. -/
theorem State.hostAfter_of_rest {s : State} (hu : s.bt.upc = 0) : s.hostAfter = takeMove s.host := by
  simp [State.hostAfter, State.ready, hu]

/-- R208: at rest the port takes the word presented. -/
theorem hostAfter_of_present {s : State} {w : CommandWord} {later : List HostMove} (hu : s.bt.upc = 0)
    (hhost : s.host = .present w :: later) : s.hostAfter = later := by
  rw [State.hostAfter_of_rest hu, hhost]
  rfl

/-- R86: a word that is not zero and has `op` clear is reserved. -/
theorem decodeCmd17_of_reserved {w : CommandWord} (hne : w ≠ 0) (hlt : w.toNat < 0x10000) :
    decodeCmd17 w = .error .reservedCommandWord := by
  have hpos : w.toNat ≠ 0 := fun h => hne (BitVec.eq_of_toNat_eq h)
  exact decodeCmd17_error_iff.mpr ⟨rfl, by omega, hlt⟩

/-- Settles O4: each clause is the rule of its format's decoder; a reserved word taken at the port is a tick of its own. -/
theorem reservedEncodingsAreRejected : Obligations.ReservedEncodingsAreRejected := by
  refine ⟨fun _ => rfl, fun c hcodes => (decodeCtl2_codes hcodes).2.2.2, ?driven, fun w => decodeCmd17_of_reserved, ?taken,
    fun u => decodeUpc4_of_le, decodeCmd17_writeRegisterWord⟩
  case driven =>
    rintro s hcodes ⟨hctl, -, -⟩
    rw [hctl]
    exact codeAt_ne_reserved hcodes _
  case taken =>
    intro s w later hv hr hu hhost hne hlt
    have hfetch : s.fetch = .error .reservedCommandWord := by
      rw [fetch_of_present hu hhost, decodeCmd17_of_reserved hne hlt]
    rw [step_of_reserved hv hr hfetch, ← hostAfter_of_present hu hhost]
    rfl

/-! ### Source text -/

/-- R88: a write is well formed exactly when both literals are bytes. -/
theorem wellFormed_writeRegister_iff {a v : Nat} :
    (SourceCommand.writeRegister a v).wellFormed = true ↔ a ≤ 255 ∧ v ≤ 255 := by
  simp [SourceCommand.wellFormed]

/-- Settles O5: a well-formed command becomes its own word, which decodes to it. -/
theorem transcribedCommandsDecodeToThemselves : Obligations.TranscribedCommandsDecodeToThemselves := by
  refine ⟨?accepted, ?refused, ⟨_, rfl, decodeCmd17_configureClockWord⟩⟩
  case accepted =>
    intro a v ha hv
    exact ⟨_, if_pos (wellFormed_writeRegister_iff.mpr ⟨ha, hv⟩), decodeCmd17_writeRegisterWord _ _⟩
  case refused =>
    intro a v hout
    exact if_neg fun hwf => by
      obtain ⟨ha, hv⟩ := wellFormed_writeRegister_iff.mp hwf
      omega

end Sys2Proof.Machine
end

section
/-!
PROOFS. The configuration record: the compare threshold (R101), the delay counts against the bus contract (R134, R150), the
refusal of an invalid record (R10), and the pin map (R9).
-/

namespace Sys2Proof.Machine

open Host

/-! ### Threshold and delays -/

/-- Settles O10: `ROUNDED` is the natural quotient of `F_SYS` plus half the divisor. -/
theorem thresholdIsNearestInteger : Obligations.ThresholdIsNearestInteger := by
  intro c hdivider hout
  have hpos : 0 < 2 * c.divider * c.fOut := by positivity
  exact ⟨Nat.mul_div_le _ _, Nat.lt_mul_div_succ _ hpos, rfl⟩

/-- R133, R134 (a): the count of a used delay, and the ticks around it, last at least as long as the minimum. -/
theorem min_le_ticksOf_add (c : Config) {minNs usedNs : Nat} (h : minNs ≤ usedNs) (more : Nat) :
    minNs * c.fSys ≤ (c.ticksOf usedNs + more) * nsPerSecond :=
  calc minNs * c.fSys ≤ usedNs * c.fSys := Nat.mul_le_mul_right _ h
    _ ≤ c.ticksOf usedNs * nsPerSecond := (ticksOf_le_iff.mp le_rfl).2
    _ ≤ (c.ticksOf usedNs + more) * nsPerSecond := Nat.mul_le_mul_right _ (Nat.le_add_right _ _)

/-- Settles O12: the four minima are kept by the counts alone, and the maximum is the test R134 (b). -/
theorem validDelaysKeepTheBusContract : Obligations.ValidDelaysKeepTheBusContract := by
  intro c hv
  obtain ⟨⟨has, hah, hdw, hdh⟩, hmax, -⟩ := validDelay_of_valid hv
  exact ⟨min_le_ticksOf_add c has 1, min_le_ticksOf_add c hah 2, min_le_ticksOf_add c hdw 1, hmax,
    min_le_ticksOf_add c hdh 4⟩

/-- R134 (b) at the default delays: a count of at least 1 needs 200,000 Hz, and from there on 10 times the used delay leaves
room for one tick more than the count. -/
theorem defaultDataWriteShortEnough_iff {c : Config} (hused : c.tDwUsedNs = 1000) (hmax : c.tDwMaxNs = 10000) :
    c.DataWriteShortEnough ↔ 200000 ≤ c.fSys := by
  have hcount : c.nDw ≤ 1 ∨ (c.nDw - 1) * nsPerSecond ≤ 1000 * c.fSys := by
    by_contra! h
    have hless : c.nDw ≤ c.nDw - 1 := ticksOf_le_iff.mpr ⟨by omega, by rw [hused]; exact h.2.le⟩
    omega
  have hone : 1 ≤ c.nDw := one_le_ticksOf c _
  simp only [Config.DataWriteShortEnough, hmax, nsPerSecond] at hcount ⊢
  generalize c.nDw = n at *
  omega

/-- Settles O13: the other parts of the test hold of the default numbers. -/
theorem defaultDelaysValidFrom200kHz : Obligations.DefaultDelaysValidFrom200kHz := by
  intro c hasMin hahMin hdwMin hdwMax hdhMin hasUsed hahUsed hdwUsed hdhUsed
  have hlong : c.DelaysLongEnough := by
    rw [Config.DelaysLongEnough, hasMin, hahMin, hdwMin, hdhMin, hasUsed, hahUsed, hdwUsed, hdhUsed]
    decide
  have horder : c.tDwMinNs ≤ c.tDwMaxNs := by
    rw [hdwMin, hdwMax]
    decide
  rw [← defaultDataWriteShortEnough_iff hdwUsed hdwMax]
  exact ⟨fun ⟨_, hshort, _⟩ => hshort, fun hshort => ⟨hlong, hshort, horder⟩⟩

/-! ### Validity -/

/-- Settles O9: the test of the record comes before anything else in a tick. -/
theorem invalidConfigurationIsRefused : Obligations.InvalidConfigurationIsRefused :=
  fun _ hv => if_neg hv

/-! ### Pin map -/

/-- R9: the pins of the map are those of the signals, in the signals' order. -/
theorem map_pinOf_all (m : PinMap) : Signal.all.map (pinOf m) = m.pins :=
  rfl

/-- R43: every signal is in the list of them. -/
theorem Signal.mem_all (sig : Signal) : sig ∈ Signal.all := by
  cases sig with
  | d line => fin_cases line <;> decide
  | clk => decide
  | ctl1 => decide
  | ctl0 => decide

/-- R9: an injective map gives no two signals the same pin. -/
theorem pinOf_injective {m : PinMap} (h : m.Injective) : Function.Injective (pinOf m) := by
  intro sig sig' hpin
  have hnodup : (Signal.all.map (pinOf m)).Nodup := by rw [map_pinOf_all]; exact h
  exact List.inj_on_of_nodup_map hnodup sig.mem_all sig'.mem_all hpin

/-- Settles O46: the first signal found on a signal's pin is that signal, since no other has the pin. -/
theorem eachSignalHasItsOwnPin : Obligations.EachSignalHasItsOwnPin := by
  intro s hinj
  refine ⟨fun sig => ?_, fun sig sig' => @pinOf_injective _ hinj sig sig'⟩
  have hfound : (Signal.all.find? fun x => pinOf s.cfg.pinMap x = pinOf s.cfg.pinMap sig).isSome :=
    List.find?_isSome.mpr ⟨sig, sig.mem_all, by simp⟩
  obtain ⟨x, hx⟩ := Option.isSome_iff_exists.mp hfound
  have hpin : pinOf s.cfg.pinMap x = pinOf s.cfg.pinMap sig := by simpa using List.find?_some hx
  rw [State.physicalPin, hx, pinOf_injective hinj hpin]
  rfl

end Sys2Proof.Machine
end

section
/-!
PROOFS. What one tick can do (70_reset_and_hazards.md section 5, 41_bus_transactor.md section 5): the operation it selects, what
a micro-operation writes element by element (R135 to R146), and from there what one tick does to the Bus Transactor, to the Clock
Generator, to the mark and to the host.
-/

namespace Sys2Proof.Machine

open Host

/-! ### The operation selected -/

/-- R148: during a write the sequencer selects. -/
theorem fetch_of_busy {s : State} (hu : s.bt.upc ≠ 0) : s.fetch = .ok (microOperation s.bt.upc) := by
  simp [State.fetch, State.ready, hu]

/-- R147: at rest and with nothing presented the tick executes IDLE. -/
theorem fetch_of_silent {s : State} (hu : s.bt.upc = 0) (hpresented : s.presented = none) : s.fetch = .ok .idle := by
  simp [State.fetch, State.ready, hu, hpresented]

/-- Settles O14: the tick is that of `step_of_fetch`, and the operation and the host's progress depend on `UPC` and on the
host's next move. -/
theorem stepRunsSelectedOperation : Obligations.StepRunsSelectedOperation := by
  intro s hv hr
  refine ⟨fun i => step_of_fetch hv hr, fun hu => ?busy, fun hu => ?rest⟩
  case busy =>
    have hhold := State.hostAfter_of_busy hu
    exact ⟨fetch_of_busy hu, fun w later hhost => by rw [hhold, hhost]; rfl, fun later hhost => by rw [hhold, hhost]; rfl,
      fun hhost => by rw [hhold, hhost]; rfl⟩
  case rest =>
    have htake := State.hostAfter_of_rest hu
    exact ⟨fun w later hhost => ⟨fetch_of_present hu hhost, hostAfter_of_present hu hhost⟩,
      fun later hhost => ⟨fetch_of_silent hu (by rw [State.presented, hhost]), by rw [htake, hhost]; rfl⟩,
      fun hhost => ⟨fetch_of_silent hu (by rw [State.presented, hhost]), by rw [htake, hhost]; rfl⟩⟩

/-- Settles O15, by induction on the number of ticks: each is taken, and the record stays. -/
theorem validMachineNeverStops : Obligations.ValidMachineNeverStops := by
  intro n
  induction n with
  | zero => exact fun s _ => ⟨s, rfl, rfl⟩
  | succ n ih =>
    intro s hv
    obtain ⟨r, hr⟩ := exists_step_of_valid hv
    have hcfg := step_cfg hr
    obtain ⟨t, ht, htcfg⟩ := ih r (by rw [hcfg]; exact hv)
    exact ⟨t, (ticks_succ_of_step n hr).trans ht, htcfg.trans hcfg⟩

/-! ### What a micro-operation writes -/

/-- R24: A_DRIVE and D_DRIVE write the bus byte. -/
theorem microEffect_busOut (u : MicroIndex) (c : Config) (b : BusTransactor) :
    (microEffect u c b).busOut = if u = 3 then b.areg else if u = 8 then b.vreg else b.busOut := by
  fin_cases u <;> rfl

/-- R25: A_DIR and D_DIR write the direction. -/
theorem microEffect_busDir (u : MicroIndex) (c : Config) (b : BusTransactor) :
    (microEffect u c b).busDir = if u = 1 ∨ u = 7 then .driver else b.busDir := by
  fin_cases u <;> rfl

/-- R26: the two modes and the two strobes write the control lines. -/
theorem microEffect_ctl (u : MicroIndex) (c : Config) (b : BusTransactor) :
    (microEffect u c b).ctl =
      if u = 2 then c.ctlCodeAl else if u = 9 then c.ctlCodeDw else if u = 5 ∨ u = 11 then idleCode else b.ctl := by
  fin_cases u <;> rfl

/-- R22: no micro-operation writes `AREG`. -/
theorem microEffect_areg (u : MicroIndex) (c : Config) (b : BusTransactor) : (microEffect u c b).areg = b.areg := by
  fin_cases u <;> rfl

/-- R23: no micro-operation writes `VREG`. -/
theorem microEffect_vreg (u : MicroIndex) (c : Config) (b : BusTransactor) : (microEffect u c b).vreg = b.vreg := by
  fin_cases u <;> rfl

/-- R148: a micro-operation goes on to the next index modulo 13, a wait when it is over; rest stays. -/
theorem microEffect_upc {u : MicroIndex} (c : Config) {b : BusTransactor} (hu : b.upc = u) :
    (microEffect u c b).upc =
      if u = 0 then 0 else if u = 4 ∨ u = 6 ∨ u = 10 ∨ u = 12 then (if b.dly = 1 then u + 1 else u) else u + 1 := by
  fin_cases u <;> simp [microEffect, hu]

/-! ### What a tick does, element by element -/

/-- R148, R208: on a tick without reset the Bus Transactor makes the micro-operation of its index, of which that of rest is
none, or accepts a write. -/
theorem step_bt {s t : State} (h : step s = .next t) (hr : s.resetAsserted = false) :
    (t.bt = microEffect s.bt.upc s.cfg s.bt ∧ ∀ a v, s.fetch ≠ .ok (.writeRegister a v)) ∨
      (s.bt.upc = 0 ∧ ∃ a v, s.fetch = .ok (.writeRegister a v) ∧ t.bt = (s.bt.latchOperands a v).goto 1) := by
  by_cases hw : ∃ a v, s.fetch = .ok (.writeRegister a v)
  · obtain ⟨a, v, hf⟩ := hw
    by_cases hu : s.bt.upc = 0
    · rw [step_of_fetch (step_inversion h).1 hr hf] at h
      have hacc := State.accept_of_rest (s := s.beginTick) hu (State.startWrite a v)
      rw [← Outcome.next.inj h, hacc]
      exact .inr ⟨hu, a, v, hf, rfl⟩
    · rw [fetch_of_busy hu] at hf
      exact absurd (Except.ok.inj hf) (microOperation_ne_writeRegister _ a v)
  · push Not at hw
    refine .inl ⟨?_, hw⟩
    by_cases hu : s.bt.upc = 0
    · rw [step_bt_of_rest h hr hu hw, hu]
      rfl
    · rw [step_of_busy (step_inversion h).1 hr hu] at h
      rw [← Outcome.next.inj h]
      rfl

/-- R105, R109: on a tick without reset the Clock Generator makes CG_TICK, unless a first configuration is accepted, whose
writes win. -/
theorem step_cg {s t : State} (h : step s = .next t) (hr : s.resetAsserted = false) :
    (s.fetch = .ok .configureClock ∧ s.cg.mode = .off ∧ t.cg = s.cg.configure s.cfg) ∨
      (¬ (s.fetch = .ok .configureClock ∧ s.cg.mode = .off) ∧ t.cg = s.cg.tick s.cfg) := by
  obtain ⟨-, ⟨hr', -⟩ | ⟨-, ⟨-, hf, rfl⟩ | ⟨-, hf, rfl⟩ | ⟨-, hf, hm, rfl⟩ | ⟨-, hf, hm, rfl⟩ | ⟨-, a, v, hf, rfl⟩ |
    ⟨-, hf, rfl⟩⟩⟩ := step_inversion h
  · exact absurd hr' (by simp [hr])
  · refine .inr ⟨fun ⟨hcc, _⟩ => ?_, rfl⟩
    rw [hf] at hcc
    exact microOperation_ne_configureClock _ (Except.ok.inj hcc)
  · exact .inr ⟨by simp [hf], rfl⟩
  · refine .inl ⟨hf, hm, ?_⟩
    simp [ClockGenerator.configure, ClockGenerator.tick_clkQ_of_off, hm]
  · exact .inr ⟨by simp [hm], rfl⟩
  · exact .inr ⟨by simp [hf], rfl⟩
  · exact .inr ⟨by simp [hf], rfl⟩

/-- R157, R208: on a tick without reset the host moves on as the port lets it. -/
theorem step_host {s t : State} (h : step s = .next t) (hr : s.resetAsserted = false) : t.host = s.hostAfter := by
  obtain ⟨-, ⟨hr', -⟩ | ⟨-, ⟨-, -, rfl⟩ | ⟨-, -, rfl⟩ | ⟨-, -, -, rfl⟩ | ⟨-, -, -, rfl⟩ | ⟨-, _, _, -, rfl⟩ | ⟨-, -, rfl⟩⟩⟩ :=
    step_inversion h
  · exact absurd hr' (by simp [hr])
  all_goals rfl

/-- Settles O33: the elements a micro-operation writes, and those the acceptance of a write does. -/
theorem busElementsHaveOnlyTheirWriters : Obligations.BusElementsHaveOnlyTheirWriters := by
  intro s t h hr
  obtain ⟨hbt, hno⟩ | ⟨hu, a, v, hf, hbt⟩ := step_bt h hr
  · rw [hbt]
    exact ⟨microEffect_busOut .., microEffect_busDir .., microEffect_ctl ..,
      .inl ⟨microEffect_areg .., microEffect_vreg .., fun a v ⟨_, hf⟩ => hno a v hf⟩⟩
  · rw [hbt, hu]
    exact ⟨rfl, rfl, rfl, .inr ⟨rfl, hf⟩⟩

/-- Settles O34: the transfers of the micro-operations, the start of a write and reset. -/
theorem sequencerTransfersAreTheListed : Obligations.SequencerTransfersAreTheListed := by
  intro s t h
  cases hr : s.resetAsserted with
  | true =>
    rw [step_reset (step_inversion h).1 hr] at h
    rw [← Outcome.next.inj h]
    rfl
  | false =>
    obtain ⟨hbt, hno⟩ | ⟨hu, a, v, hf, hbt⟩ := step_bt h hr
    · rw [hbt, microEffect_upc s.cfg rfl, if_neg Bool.false_ne_true]
      split
      · split
        · exact absurd ‹_› (hno _ _)
        · rfl
      · rfl
    · rw [hbt, if_neg Bool.false_ne_true, if_pos hu, hf]
      rfl

/-- Settles O36: of all a tick can do, two set the mark, each selected by its own cause. -/
theorem refusedMarkHasTwoCauses : Obligations.RefusedMarkHasTwoCauses := by
  intro s t h hr
  obtain ⟨-, ⟨hr', -⟩ | ⟨-, ⟨-, hf, rfl⟩ | ⟨-, hf, rfl⟩ | ⟨-, hf, hm, rfl⟩ | ⟨-, hf, hm, rfl⟩ | ⟨-, a, v, hf, rfl⟩ |
    ⟨-, hf, rfl⟩⟩⟩ := step_inversion h
  · exact absurd hr' (by simp [hr])
  · simp [hf, microOperation_ne_configureClock]
  · simp [hf]
  · simp [hf, hm]
  · simp [hf, hm]
  · simp [hf]
  · simp [hf]

/-- Settles O38: the two cases of `step_cg`, and what CG_TICK leaves. -/
theorem clockTicksOnEveryTick : Obligations.ClockTicksOnEveryTick := by
  intro s t h hr
  obtain ⟨hf, hm, hcg⟩ | ⟨hno, hcg⟩ := step_cg h hr
  · exact ⟨fun _ => hcg, fun hno => absurd ⟨hf, hm⟩ hno⟩
  · refine ⟨fun hyes => absurd hyes hno, fun _ => ⟨hcg, ?_⟩⟩
    rw [hcg]
    exact s.cg.tick_frame s.cfg

/-- R3: what a tick selects depends on the sequencer and the host alone. -/
theorem fetch_congr {s₁ s₂ : State} (hbt : s₁.bt = s₂.bt) (hhost : s₁.host = s₂.host) : s₁.fetch = s₂.fetch := by
  rw [State.fetch, State.fetch, State.ready, State.ready, State.presented, State.presented, hbt, hhost]

/-- Settles O37: both ticks are a reset, or both make the same micro-operation, or both accept the same write. -/
theorem busIgnoresClock : Obligations.BusIgnoresClock := by
  intro s₁ s₂ t₁ t₂ hcfg hbt hhost hline h₁ h₂
  have hreset : s₁.resetAsserted = s₂.resetAsserted := by rw [State.resetAsserted, State.resetAsserted, hline]
  have hfetch : s₁.fetch = s₂.fetch := fetch_congr hbt hhost
  have hlineAfter : t₁.resetLine = t₂.resetLine := by rw [step_resetLine h₁, step_resetLine h₂, hline]
  cases hr : s₂.resetAsserted with
  | true =>
    rw [step_reset (step_inversion h₁).1 (hreset.trans hr)] at h₁
    rw [step_reset (step_inversion h₂).1 hr] at h₂
    rw [← Outcome.next.inj h₁, ← Outcome.next.inj h₂] at hlineAfter ⊢
    exact ⟨rfl, congrArg holdMoves hhost, hlineAfter⟩
  | false =>
    have hhostAfter : t₁.host = t₂.host := by
      rw [step_host h₁ (hreset.trans hr), step_host h₂ hr, State.hostAfter, State.hostAfter, State.ready, State.ready, hbt,
        hhost]
    refine ⟨?_, hhostAfter, hlineAfter⟩
    obtain ⟨hbt₁, hno₁⟩ | ⟨-, a₁, v₁, hf₁, hbt₁⟩ := step_bt h₁ (hreset.trans hr) <;>
      obtain ⟨hbt₂, hno₂⟩ | ⟨-, a₂, v₂, hf₂, hbt₂⟩ := step_bt h₂ hr
    · rw [hbt₁, hbt₂, hbt, hcfg]
    · exact absurd (hfetch.trans hf₂) (hno₁ a₂ v₂)
    · exact absurd (hfetch.symm.trans hf₁) (hno₂ a₁ v₁)
    · obtain ⟨rfl, rfl⟩ : a₁ = a₂ ∧ v₁ = v₂ := by simpa [hf₁, hf₂] using hfetch
      rw [hbt₁, hbt₂, hbt]

/-! ### Operations and the pins -/

/-- R43: the pins show the Clock Generator and three elements of the Bus Transactor. -/
theorem State.pin_congr {s t : State} (hcg : t.cg = s.cg) (hdir : t.bt.busDir = s.bt.busDir)
    (hout : t.bt.busOut = s.bt.busOut) (hctl : t.bt.ctl = s.bt.ctl) (sig : Signal) : t.pin sig = s.pin sig := by
  by_cases hsig : sig = .clk
  · subst hsig
    simp only [State.pin, hcg]
  · exact State.pin_congr_of_ne_clk hdir hout hctl hsig

/-- Settles O19: the accepted write is `startWrite`, which touches no element that a pin shows. -/
theorem writeAcceptanceLatchesOperands : Obligations.WriteAcceptanceLatchesOperands := by
  intro s a v
  have haccept : exec (.writeRegister a v) s = .next (s.accept (State.startWrite a v)) := rfl
  refine ⟨fun hu => ⟨s.startWrite a v, ?_, rfl, State.pin_congr rfl rfl rfl rfl⟩, fun hu => ?_⟩
  · rw [haccept, State.accept_of_rest hu]
  · rw [haccept, State.accept_of_busy hu]

/-- Settles O20: each operation is `driveCode` of its code, which the two control pins show. -/
theorem controlCodesWriteOnlyControlLines : Obligations.ControlCodesWriteOnlyControlLines := fun s =>
  ⟨⟨s.driveCode idleCode, rfl, rfl, State.pin_ctl_of_idleCode rfl⟩,
    ⟨s.driveCode s.cfg.ctlCodeAl, rfl, rfl, fun h => State.pin_ctl_of_code01 h, fun h => State.pin_ctl_of_code10 h⟩,
    ⟨s.driveCode s.cfg.ctlCodeDw, rfl, rfl, fun h => State.pin_ctl_of_code10 h, fun h => State.pin_ctl_of_code01 h⟩⟩

/-- R132: the state after one tick of a wait whose counter fits its register. -/
theorem State.waitTick_of_pos {s : State} (hpos : 1 ≤ s.bt.dly) (hfits : s.bt.dly < 2 ^ s.cfg.dlyW) (after : MicroIndex) :
    s.waitTick after =
      { s with bt := { s.bt with dly := s.bt.dly - 1, upc := if s.bt.dly = 1 then after else s.bt.upc } } := by
  rw [← delayPred_of_pos hpos hfits]
  rfl

/-- Settles O30: the four waits are `waitTick` with their four successors; no pin shows `DLY` or `UPC`. -/
theorem waitsCountDown : Obligations.WaitsCountDown := by
  intro s hpos hfits
  have hstate := State.waitTick_of_pos hpos hfits
  have hpin (after : MicroIndex) (sig : Signal) : (s.waitTick after).pin sig = s.pin sig :=
    State.pin_congr rfl rfl rfl rfl sig
  exact ⟨⟨s.waitTick 5, rfl, hstate 5, hpin 5⟩, ⟨s.waitTick 7, rfl, hstate 7, hpin 7⟩,
    ⟨s.waitTick 11, rfl, hstate 11, hpin 11⟩, ⟨s.waitTick 0, rfl, hstate 0, hpin 0⟩⟩

/-- Log entry 5: below 0 the delay counter wraps to its largest value. -/
theorem delayPred_zero (c : Config) : delayPred c 0 = 2 ^ c.dlyW - 1 := by
  rw [delayPred, Nat.zero_add, Nat.mod_eq_of_lt (Nat.sub_lt (Nat.two_pow_pos _) Nat.one_pos)]

/-- Settles O31: a counter at 0 is not at 1, so the wait stays, and its decrement wraps. -/
theorem waitFromZeroWraps : Obligations.WaitFromZeroWraps := by
  intro s hdly i hi
  have hstate (after : MicroIndex) : s.waitTick after = { s with bt := { s.bt with dly := 2 ^ s.cfg.dlyW - 1 } } := by
    rw [← delayPred_zero]
    simp [State.waitTick, State.onBt, BusTransactor.waitTick, hdly]
  simp only [List.mem_cons, List.not_mem_nil, or_false] at hi
  rcases hi with rfl | rfl | rfl | rfl
  · exact congrArg _ (hstate 5)
  · exact congrArg _ (hstate 7)
  · exact congrArg _ (hstate 11)
  · exact congrArg _ (hstate 0)

/-- R105, R109: no operation but the acceptance of a first configuration writes an element of the Clock Generator. -/
theorem exec_cg {i : Instr} {s t : State} (h : exec i s = .next t) :
    t.cg = s.cg ∨ (i = .configureClock ∧ t.cg = s.cg.configure s.cfg) := by
  cases i with
  | configureClock =>
    by_cases hu : s.bt.upc = 0
    · cases hm : s.cg.mode with
      | off =>
        rw [exec_configureClock_first hu hm] at h
        exact .inr ⟨rfl, by rw [← Outcome.next.inj h]; rfl⟩
      | toggleOnMatch =>
        rw [exec_configureClock_second hu hm] at h
        exact .inl (by rw [← Outcome.next.inj h]; rfl)
    · rw [exec_configureClock_busy hu] at h
      exact .inl (by rw [← Outcome.next.inj h])
  | writeRegister a v =>
    left
    rw [← Outcome.next.inj h]
    obtain ⟨-, haccept⟩ | ⟨-, haccept⟩ := accept_cases s (State.startWrite a v)
    · rw [haccept, State.startWrite_cg]
    · rw [haccept]
  | ctlReserved => cases h
  | _ => exact .inl (congrArg State.cg (Outcome.next.inj h)).symm

/-- Settles O52: an operation that keeps the Clock Generator keeps the pin, and a configuration enables the pin at the flop's
level, which an enabled pin showed before. -/
theorem clockPinCarriesTheOutput : Obligations.ClockPinCarriesTheOutput := by
  refine ⟨fun s => ⟨State.pin_clk_of_disabled, State.pin_clk_of_enabled⟩, fun i s t h => ?_⟩
  obtain hcg | ⟨hi, hcg⟩ := exec_cg h
  · exact .inl (by simp only [State.pin, hcg])
  · have ht : t.pin .clk = PinLevel.driven s.cg.clkQ := by
      rw [State.pin_clk_of_enabled (by rw [hcg]; rfl), hcg]
      rfl
    cases hoe : s.cg.clkOe with
    | true => exact .inl (by rw [ht, State.pin_clk_of_enabled hoe])
    | false => exact .inr ⟨hi, State.pin_clk_of_disabled hoe, ht⟩

end Sys2Proof.Machine
end

section
/-!
PROOFS. The invariants of a tick: what a tick of a write does to the sequencer and its delay counter (R132, R148), the bus
invariant (R152), CG_TICK case by case (R106), the clock invariant (R113) and the register widths (R20).
-/

namespace Sys2Proof.Machine

open Host

/-! ### Waits and the delay counter -/

/-- R132: the four waits. -/
theorem waitCount_eq_none_iff {c : Config} {u : MicroIndex} :
    waitCount c u = none ↔ ¬ (u = 4 ∨ u = 6 ∨ u = 10 ∨ u = 12) := by
  fin_cases u <;> simp [waitCount]

theorem wait_of_waitCount {c : Config} {u : MicroIndex} {n : Nat} (h : waitCount c u = some n) :
    u = 4 ∨ u = 6 ∨ u = 10 ∨ u = 12 := by
  by_contra hno
  rw [waitCount_eq_none_iff.mpr hno] at h
  cases h

/-- R20, R133: the count of a wait is at least 1 and fits the delay counter. -/
theorem waitCount_bounds {c : Config} {u : MicroIndex} {n : Nat} (h : waitCount c u = some n) :
    1 ≤ n ∧ n < 2 ^ c.dlyW := by
  unfold waitCount at h
  split_ifs at h <;> obtain rfl := Option.some.inj h
  · exact ⟨one_le_ticksOf .., nAs_lt_two_pow_dlyW c⟩
  · exact ⟨one_le_ticksOf .., nAh_lt_two_pow_dlyW c⟩
  · exact ⟨one_le_ticksOf .., nDw_lt_two_pow_dlyW c⟩
  · exact ⟨one_le_ticksOf .., nDh_lt_two_pow_dlyW c⟩

/-- R148: no wait follows another. -/
theorem waitCount_succ_of_wait {c : Config} {u : MicroIndex} {n : Nat} (h : waitCount c u = some n) :
    waitCount c (u + 1) = none := by
  rcases wait_of_waitCount h with rfl | rfl | rfl | rfl <;> rfl

/-- R132: a wait counts `DLY` down, and the micro-operation before a wait loads its count. -/
theorem microEffect_dly (u : MicroIndex) (c : Config) (b : BusTransactor) :
    (microEffect u c b).dly =
      if u = 4 ∨ u = 6 ∨ u = 10 ∨ u = 12 then delayPred c b.dly else (waitCount c (u + 1)).getD b.dly := by
  fin_cases u <;> rfl

/-- Inside a wait the delay counter is in the range of the wait's count (R152 (d), without the value elsewhere). -/
def WaitInRange (c : Config) (b : BusTransactor) : Prop :=
  ∀ n, waitCount c b.upc = some n → 1 ≤ b.dly ∧ b.dly ≤ n

/-- What a tick of a write does to the sequencer and its counter: it goes on, loading the count of a wait that follows; it ends
a wait; or it counts a wait down. -/
theorem microEffect_progress {c : Config} {b : BusTransactor} (hu : b.upc ≠ 0) (h : WaitInRange c b) :
    (waitCount c b.upc = none ∧ (microEffect b.upc c b).upc = b.upc + 1 ∧
      (microEffect b.upc c b).dly = (waitCount c (b.upc + 1)).getD b.dly) ∨
    ((∃ n, waitCount c b.upc = some n) ∧ b.dly = 1 ∧ (microEffect b.upc c b).upc = b.upc + 1 ∧
      (microEffect b.upc c b).dly = 0) ∨
    (∃ n d, waitCount c b.upc = some n ∧ b.dly = d + 2 ∧ d + 2 ≤ n ∧ (microEffect b.upc c b).upc = b.upc ∧
      (microEffect b.upc c b).dly = d + 1) := by
  rw [microEffect_upc c rfl, microEffect_dly, if_neg hu]
  cases hw : waitCount c b.upc with
  | none =>
    have hno := waitCount_eq_none_iff.mp hw
    rw [if_neg hno, if_neg hno]
    exact .inl ⟨rfl, rfl, rfl⟩
  | some n =>
    have hwait := wait_of_waitCount hw
    obtain ⟨hpos, hle⟩ := h n hw
    have hpred := delayPred_of_pos hpos (lt_of_le_of_lt hle (waitCount_bounds hw).2)
    rw [if_pos hwait, if_pos hwait, hpred]
    by_cases hlast : b.dly = 1
    · exact .inr (.inl ⟨⟨n, rfl⟩, hlast, if_pos hlast, by omega⟩)
    · exact .inr (.inr ⟨n, b.dly - 2, rfl, by omega, by omega, if_neg hlast, by omega⟩)

/-- R148: a tick of a write goes on to the next index or stays in a wait. -/
theorem microEffect_upc_cases {c : Config} {b : BusTransactor} (hu : b.upc ≠ 0) (h : WaitInRange c b) :
    (microEffect b.upc c b).upc = b.upc + 1 ∨
      ((b.upc = 4 ∨ b.upc = 6 ∨ b.upc = 10 ∨ b.upc = 12) ∧ (microEffect b.upc c b).upc = b.upc) := by
  obtain ⟨-, hupc, -⟩ | ⟨-, -, hupc, -⟩ | ⟨n, -, hw, -, -, hupc, -⟩ := microEffect_progress hu h
  · exact .inl hupc
  · exact .inl hupc
  · exact .inr ⟨wait_of_waitCount hw, hupc⟩

/-- R132: a tick of a write keeps the delay counter in the range of the wait it is in. -/
theorem microEffect_waitInRange {c : Config} {b : BusTransactor} (hu : b.upc ≠ 0) (h : WaitInRange c b) :
    WaitInRange c (microEffect b.upc c b) := by
  intro m hm
  obtain ⟨-, hupc, hdly⟩ | ⟨⟨n, hn⟩, -, hupc, -⟩ | ⟨n, d, hn, -, hle, hupc, hdly⟩ := microEffect_progress hu h
  · rw [hupc] at hm
    rw [hdly, hm, Option.getD_some]
    exact ⟨(waitCount_bounds hm).1, le_rfl⟩
  · rw [hupc, waitCount_succ_of_wait hn] at hm
    cases hm
  · rw [hupc, hn] at hm
    obtain rfl := Option.some.inj hm
    omega

/-- R152 (d): a tick of a write keeps `DLY` at 0 outside the waits. -/
theorem microEffect_dly_eq_zero {c : Config} {b : BusTransactor} (hu : b.upc ≠ 0) (h : WaitInRange c b)
    (hzero : waitCount c b.upc = none → b.dly = 0) (hw : waitCount c (microEffect b.upc c b).upc = none) :
    (microEffect b.upc c b).dly = 0 := by
  obtain ⟨hnone, hupc, hdly⟩ | ⟨-, -, -, hdly⟩ | ⟨n, d, hn, -, -, hupc, -⟩ := microEffect_progress hu h
  · rw [hupc] at hw
    rw [hdly, hw, Option.getD_none, hzero hnone]
  · exact hdly
  · rw [hupc, hn] at hw
    cases hw

/-! ### The bus invariant -/

/-- R152 (d) says where `DLY` is 0, and its range in a wait. -/
theorem delayConsistent_iff {c : Config} {b : BusTransactor} :
    DelayConsistent c b ↔ (waitCount c b.upc = none → b.dly = 0) ∧ WaitInRange c b := by
  unfold DelayConsistent WaitInRange
  cases waitCount c b.upc <;> simp

/-- R152 (b): the control lines change with `UPC`. -/
theorem microEffect_ctl_eq_codeAt {c : Config} {b : BusTransactor} (hu : b.upc ≠ 0) (h : WaitInRange c b)
    (hctl : b.ctl = codeAt c b.upc) : (microEffect b.upc c b).ctl = codeAt c (microEffect b.upc c b).upc := by
  have hupc := microEffect_upc_cases hu h
  rw [microEffect_ctl, hctl]
  generalize b.upc = u at *
  obtain hupc | ⟨hwait, hupc⟩ := hupc <;> rw [hupc]
  · fin_cases u
    · exact absurd rfl hu
    all_goals rfl
  · rcases hwait with rfl | rfl | rfl | rfl <;> rfl

/-- R152 (e): from A_MODE on the block drives the bus. -/
theorem microEffect_driver {c : Config} {b : BusTransactor} (hu : b.upc ≠ 0) (hdir : 2 ≤ b.upc → b.busDir = .driver) :
    (microEffect b.upc c b).busDir = .driver := by
  rw [microEffect_busDir]
  split_ifs with hwrites
  · rfl
  · have hrest : ∀ u : MicroIndex, u ≠ 0 → ¬ (u = 1 ∨ u = 7) → 2 ≤ u := by decide
    exact hdir (hrest _ hu hwrites)

/-- R152: a tick of a write keeps the bus invariant. -/
theorem State.BusInvariant.onBt_microEffect {s t : State} (h : s.BusInvariant) (hu : s.bt.upc ≠ 0) (hcfg : t.cfg = s.cfg)
    (hbt : t.bt = microEffect s.bt.upc s.cfg s.bt) : t.BusInvariant := by
  obtain ⟨hctl, hdelay, hdir⟩ := h
  obtain ⟨hzero, hrange⟩ := delayConsistent_iff.mp hdelay
  rw [State.BusInvariant, hcfg, hbt]
  exact ⟨microEffect_ctl_eq_codeAt hu hrange hctl,
    delayConsistent_iff.mpr ⟨microEffect_dly_eq_zero hu hrange hzero, microEffect_waitInRange hu hrange⟩,
    fun _ => microEffect_driver hu hdir⟩

/-- R50: the reset values meet the bus invariant. -/
theorem busInvariant_of_reset {s : State} (hbt : s.bt = BusTransactor.reset) : s.BusInvariant := by
  rw [State.BusInvariant, hbt]
  exact ⟨rfl, ⟨fun _ => rfl, fun h => absurd rfl h, Nat.zero_le _⟩, fun _ => by contradiction⟩

/-- R152: every tick keeps the bus invariant. -/
theorem step_keeps_busInvariant {s t : State} (hinv : s.BusInvariant) (h : step s = .next t) : t.BusInvariant := by
  cases hr : s.resetAsserted with
  | true =>
    rw [step_reset (step_inversion h).1 hr] at h
    exact busInvariant_of_reset (by rw [← Outcome.next.inj h]; rfl)
  | false =>
    have hcfg := step_cfg h
    obtain ⟨hbt, -⟩ | ⟨hu, a, v, -, hbt⟩ := step_bt h hr
    · by_cases hu : s.bt.upc = 0
      · rw [hu] at hbt
        rw [State.BusInvariant, hcfg, hbt]
        exact hinv
      · exact hinv.onBt_microEffect hu hcfg hbt
    · obtain ⟨hctl, ⟨hzero, -⟩, -⟩ := hinv
      rw [hu] at hctl hzero
      rw [State.BusInvariant, hcfg, hbt]
      exact ⟨hctl, ⟨fun _ => hzero rfl, fun hwait => absurd rfl hwait, (hzero rfl).le⟩, fun hle => by contradiction⟩

/-- R82: the code at every index is one of three. -/
theorem codeAt_cases (c : Config) (u : MicroIndex) :
    codeAt c u = 0b00#2 ∨ codeAt c u = c.ctlCodeAl ∨ codeAt c u = c.ctlCodeDw := by
  unfold codeAt
  split_ifs
  · exact .inr (.inl rfl)
  · exact .inr (.inr rfl)
  · exact .inl rfl

/-- R152 (b), (e): a mode is asserted only where the block drives the bus. -/
theorem two_le_of_codeAt_ne_idle {c : Config} {u : MicroIndex} (h : codeAt c u ≠ 0b00#2) : 2 ≤ u := by
  fin_cases u
  · exact absurd rfl h
  · exact absurd rfl h
  all_goals decide

/-- R152 (g): of two legal codes, equal or one of them idle, at most one bit differs. -/
theorem one_control_line_changes {x y : ControlCode} (hx : x ≠ 0b11#2) (hy : y ≠ 0b11#2)
    (h : x = y ∨ x = 0b00#2 ∨ y = 0b00#2) : x.getLsbD 0 = y.getLsbD 0 ∨ x.getLsbD 1 = y.getLsbD 1 := by
  revert x y
  decide

/-- R26, R152 (b): the control lines keep their code, or leave idle, or return to it. -/
theorem step_ctl_cases {s t : State} (hinv : s.BusInvariant) (h : step s = .next t) :
    s.bt.ctl = t.bt.ctl ∨ s.bt.ctl = 0b00#2 ∨ t.bt.ctl = 0b00#2 := by
  cases hr : s.resetAsserted with
  | true =>
    rw [step_reset (step_inversion h).1 hr] at h
    exact .inr (.inr (by rw [← Outcome.next.inj h]; rfl))
  | false =>
    obtain ⟨-, -, hctl, -⟩ := busElementsHaveOnlyTheirWriters s t h hr
    have hcode := hinv.1
    split_ifs at hctl with h2 h9 hstrobe
    · exact .inr (.inl (by rw [hcode, h2]; rfl))
    · exact .inr (.inl (by rw [hcode, h9]; rfl))
    · exact .inr (.inr hctl)
    · exact .inl hctl.symm

/-- Settles O42: the invariant of the next state gives the clauses about it; the direction and the control lines change as
`busElementsHaveOnlyTheirWriters` says. -/
theorem stepKeepsBusInvariant : Obligations.StepKeepsBusInvariant := by
  intro s t hinv h
  have hcodes : s.cfg.ValidCodes := validCodes_of_valid (step_inversion h).1
  have hinv' := step_keeps_busInvariant hinv h
  have hctl := hinv.1
  have hctl' := hinv'.1
  have hlegal : s.bt.ctl ≠ 0b11#2 := hctl ▸ codeAt_ne_reserved hcodes _
  have hlegal' : t.bt.ctl ≠ 0b11#2 := hctl' ▸ codeAt_ne_reserved (step_cfg h ▸ hcodes) _
  refine ⟨hinv', hctl' ▸ codeAt_cases _ _, hlegal', fun hmode => ?driver, fun hdriver hinput => ?direction,
    one_control_line_changes hlegal hlegal' (step_ctl_cases hinv h)⟩
  case driver => exact hinv'.2.2 (two_le_of_codeAt_ne_idle (hctl' ▸ hmode))
  case direction =>
    by_contra hr
    obtain ⟨-, hdir, -⟩ := busElementsHaveOnlyTheirWriters s t h (by simpa using hr)
    rw [hdriver, ite_self, hinput] at hdir
    cases hdir

/-- R192: the observer records nothing at a transition to a state that does not drive the data pins. -/
theorem Observer.observe_of_undriven (o : Observer) {before after : State} (hbefore : before.bt.ctl ≠ 0b11#2)
    (hafter : after.bt.ctl ≠ 0b11#2) (hinput : after.bt.busDir = .input) : o.observe before after = some o := by
  have hpins : after.dataPins = none := by rw [State.dataPins, hinput]
  simp [Observer.observe, Observer.strobe, hbefore, hafter, hpins]

/-- Settles O8: the next state is the reset state, which drives no data pin. -/
theorem resetAbandonsWriteUnobserved : Obligations.ResetAbandonsWriteUnobserved := by
  intro s o hv hinv hr
  have hlegal : s.bt.ctl ≠ 0b11#2 := hinv.1 ▸ codeAt_ne_reserved (validCodes_of_valid hv) _
  exact ⟨s.takeReset, step_reset hv hr, rfl, rfl, State.pin_d_of_input rfl,
    o.observe_of_undriven hlegal (show (0b00#2 : ControlCode) ≠ 0b11#2 by decide) rfl⟩

/-! ### CG_TICK -/

/-- What CG_TICK can do (R106): nothing, a step of the prescaler, a toggle on a match, or a step of the counter. -/
theorem ClockGenerator.tick_cases (c : Config) (g : ClockGenerator) :
    (g.div = 0 ∧ g.tick c = g) ∨
    (g.div ≠ 0 ∧ g.pre ≠ g.div - 1 ∧ g.tick c = { g with pre := prescalerSucc c g.pre }) ∨
    (g.CompareMatch ∧ g.mode = .toggleOnMatch ∧ g.tick c = { g with pre := 0, cnt := 0, clkQ := !g.clkQ }) ∨
    (g.TimerTick ∧ (g.cnt ≠ g.cmp ∨ g.mode = .off) ∧ g.tick c = { g with pre := 0, cnt := countSucc c g.cnt }) := by
  by_cases hdiv : g.div = 0
  · exact .inl ⟨hdiv, g.tick_of_stopped c hdiv⟩
  by_cases hpre : g.pre = g.div - 1
  · by_cases htoggle : g.cnt = g.cmp ∧ g.mode = .toggleOnMatch
    · obtain ⟨hcnt, hmode⟩ := htoggle
      exact .inr (.inr (.inl ⟨⟨⟨hdiv, hpre⟩, hcnt⟩, hmode, g.tick_of_toggle c ⟨⟨hdiv, hpre⟩, hcnt⟩ hmode⟩))
    · have hno : g.cnt ≠ g.cmp ∨ g.mode = .off := by
        cases hmode : g.mode with
        | off => exact .inr rfl
        | toggleOnMatch => exact .inl fun hcnt => htoggle ⟨hcnt, hmode⟩
      exact .inr (.inr (.inr ⟨⟨hdiv, hpre⟩, hno, g.tick_of_count c ⟨hdiv, hpre⟩ hno⟩))
  · exact .inr (.inl ⟨hdiv, hpre, g.tick_of_prescaling c hdiv hpre⟩)

theorem prescalerSucc_le (c : Config) (n : Nat) : prescalerSucc c n ≤ n + 1 :=
  Nat.mod_le _ _

theorem countSucc_le (c : Config) (n : Nat) : countSucc c n ≤ n + 1 :=
  Nat.mod_le _ _

theorem prescalerSucc_lt (c : Config) (n : Nat) : prescalerSucc c n < 2 ^ c.divW :=
  Nat.mod_lt _ (Nat.two_pow_pos _)

theorem countSucc_lt (c : Config) (n : Nat) : countSucc c n < 2 ^ c.cntW :=
  Nat.mod_lt _ (Nat.two_pow_pos _)

/-- R113: CG_TICK keeps the Clock Generator configured or stopped and its counters in range; one whose mode is off is stopped,
so that its counter never passes the threshold. -/
theorem ClockGenerator.tick_keeps_invariant {c : Config} {g : ClockGenerator} (hconf : ClockConfiguredOrStopped c g)
    (hpre : g.pre < max g.div 1) (hcnt : g.cnt ≤ g.cmp) :
    ClockConfiguredOrStopped c (g.tick c) ∧ (g.tick c).pre < max (g.tick c).div 1 ∧ (g.tick c).cnt ≤ (g.tick c).cmp := by
  refine ⟨by simpa [ClockConfiguredOrStopped] using hconf, ?_⟩
  obtain ⟨-, htick⟩ | ⟨hdiv, hne, htick⟩ | ⟨-, -, htick⟩ | ⟨⟨hdiv, -⟩, hno, htick⟩ := g.tick_cases c <;> rw [htick]
  · exact ⟨hpre, hcnt⟩
  · refine ⟨?_, hcnt⟩
    have := prescalerSucc_le c g.pre
    show prescalerSucc c g.pre < max g.div 1
    omega
  · exact ⟨lt_max_of_lt_right Nat.one_pos, Nat.zero_le _⟩
  · refine ⟨lt_max_of_lt_right Nat.one_pos, ?_⟩
    have hne : g.cnt ≠ g.cmp := by
      obtain ⟨hzero, -, -⟩ | ⟨-, hmode, -, -⟩ := hconf
      · exact absurd hzero hdiv
      · exact hno.resolve_right (by simp [hmode])
    have := countSucc_le c g.cnt
    show countSucc c g.cnt ≤ g.cmp
    omega

/-- R113: the reset values meet the clock invariant. -/
theorem clockInvariant_of_reset {s : State} (hcg : s.cg = ClockGenerator.reset) : s.ClockInvariant := by
  rw [State.ClockInvariant, hcg]
  exact ⟨.inl ⟨rfl, rfl, rfl⟩, by decide, le_rfl⟩

/-- Settles O43: a tick resets the Clock Generator, configures it, or makes CG_TICK on a state whose mark was not set
either. -/
theorem stepKeepsClockInvariant : Obligations.StepKeepsClockInvariant := by
  intro s t hinv h hmark
  cases hr : s.resetAsserted with
  | true =>
    rw [step_reset (step_inversion h).1 hr] at h
    exact clockInvariant_of_reset (by rw [← Outcome.next.inj h]; rfl)
  | false =>
    have hmark' : s.refused = false := by
      cases hs : s.refused with
      | false => rfl
      | true => exact absurd ((refusedMarkHasTwoCauses s t h hr).mpr (.inl hs)) (by simp [hmark])
    obtain ⟨hconf, hpre, hcnt⟩ := hinv hmark'
    obtain ⟨-, -, hcg⟩ | ⟨-, hcg⟩ := step_cg h hr <;> rw [State.ClockInvariant, step_cfg h, hcg]
    · exact ⟨.inr ⟨rfl, rfl, rfl, rfl⟩, lt_max_of_lt_right Nat.one_pos, Nat.zero_le _⟩
    · exact ClockGenerator.tick_keeps_invariant hconf hpre hcnt

/-! ### Register widths -/

/-- R20: CG_TICK keeps the two counters within their widths. -/
theorem ClockGenerator.tick_keeps_widths {c : Config} {g : ClockGenerator} (hpre : g.pre < 2 ^ c.divW)
    (hcnt : g.cnt < 2 ^ c.cntW) : (g.tick c).pre < 2 ^ c.divW ∧ (g.tick c).cnt < 2 ^ c.cntW := by
  obtain ⟨-, htick⟩ | ⟨-, -, htick⟩ | ⟨-, -, htick⟩ | ⟨-, -, htick⟩ := g.tick_cases c <;> rw [htick]
  · exact ⟨hpre, hcnt⟩
  · exact ⟨prescalerSucc_lt c _, hcnt⟩
  · exact ⟨Nat.two_pow_pos _, Nat.two_pow_pos _⟩
  · exact ⟨Nat.two_pow_pos _, countSucc_lt c _⟩

/-- R20: a micro-operation keeps the delay counter within its width, which holds each of the four counts. -/
theorem microEffect_dly_lt (u : MicroIndex) {c : Config} {b : BusTransactor} (h : b.dly < 2 ^ c.dlyW) :
    (microEffect u c b).dly < 2 ^ c.dlyW := by
  rw [microEffect_dly]
  split
  · exact delayPred_lt c _
  · cases hw : waitCount c (u + 1) with
    | none => exact h
    | some n => exact (waitCount_bounds hw).2

/-- R20: the reset values fit. -/
theorem widthsRespected_of_reset {s : State} (hbt : s.bt = BusTransactor.reset) (hcg : s.cg = ClockGenerator.reset) :
    s.WidthsRespected := by
  rw [State.WidthsRespected, hbt, hcg]
  exact ⟨Nat.two_pow_pos _, Nat.two_pow_pos _, Nat.two_pow_pos _, Nat.two_pow_pos _, Nat.two_pow_pos _⟩

/-- Settles O44: the delay counter by its micro-operation, the clock's registers by CG_TICK or by a configuration from a valid
record. -/
theorem stepKeepsRegisterWidths : Obligations.StepKeepsRegisterWidths := by
  rintro s t ⟨hdly, hdiv, hcmp, hpre, hcnt⟩ h
  have hv := (step_inversion h).1
  cases hr : s.resetAsserted with
  | true =>
    rw [step_reset hv hr] at h
    rw [← Outcome.next.inj h]
    exact widthsRespected_of_reset rfl rfl
  | false =>
    have hdly' : t.bt.dly < 2 ^ s.cfg.dlyW := by
      obtain ⟨hbt, -⟩ | ⟨-, a, v, -, hbt⟩ := step_bt h hr <;> rw [hbt]
      · exact microEffect_dly_lt _ hdly
      · exact hdly
    obtain ⟨-, hoffered, hthreshold, -⟩ := validClock_of_valid hv
    obtain ⟨-, -, hcg⟩ | ⟨-, hcg⟩ := step_cg h hr <;> rw [State.WidthsRespected, step_cfg h, hcg]
    · exact ⟨hdly', divider_lt_two_pow_divW hoffered, compareValue_lt_two_pow_cntW hthreshold, Nat.two_pow_pos _,
        Nat.two_pow_pos _⟩
    · rw [ClockGenerator.tick_div, ClockGenerator.tick_cmp]
      exact ⟨hdly', hdiv, hcmp, ClockGenerator.tick_keeps_widths hpre hcnt⟩

/-- Settles O45: each invariant holds of the reset values. -/
theorem resetStateMeetsInvariants : Obligations.ResetStateMeetsInvariants := fun _ =>
  ⟨busInvariant_of_reset rfl, clockInvariant_of_reset rfl, widthsRespected_of_reset rfl rfl⟩

end Sys2Proof.Machine
end

section
/-!
PROOFS. The clock over many ticks (40_clock_generator.md section 5): the closed form of a configured Clock Generator (R112), its
half period (R114), its phase after a configuration (R112) and its frequency (R102, R103).
-/

namespace Sys2Proof.Machine

open Host

/-! ### The closed form -/

/-- A configured Clock Generator whose counters are in range and whose limits fit their registers (R113, R20). -/
structure ClockGenerator.Running (c : Config) (g : ClockGenerator) : Prop where
  mode_eq : g.mode = .toggleOnMatch
  pre_lt : g.pre < g.div
  cnt_le : g.cnt ≤ g.cmp
  div_fits : g.div < 2 ^ c.divW
  cmp_fits : g.cmp < 2 ^ c.cntW

/-- The half period of a Clock Generator in ticks (R107). -/
def ClockGenerator.halfTicks (g : ClockGenerator) : Nat :=
  (g.cmp + 1) * g.div

/-- How far a Clock Generator is into its half period, in ticks. -/
def ClockGenerator.position (g : ClockGenerator) : Nat :=
  g.cnt * g.div + g.pre

/-- The Clock Generator `n` ticks after the start of a half period in which its output is that of `g` (R112). -/
def ClockGenerator.after (g : ClockGenerator) (n : Nat) : ClockGenerator :=
  { g with
    pre := n % g.div
    cnt := n / g.div % (g.cmp + 1)
    clkQ := g.clkQ ^^ decide (n / g.halfTicks % 2 = 1) }

/-- A counter modulo `d` goes on, or wraps and carries. -/
theorem succ_div_mod {n d : Nat} (hd : 0 < d) :
    (n % d ≠ d - 1 ∧ (n + 1) % d = n % d + 1 ∧ (n + 1) / d = n / d) ∨
      (n % d = d - 1 ∧ (n + 1) % d = 0 ∧ (n + 1) / d = n / d + 1) := by
  have hlt := Nat.mod_lt n hd
  have hn := Nat.div_add_mod n d
  by_cases hlast : n % d = d - 1
  · refine .inr ⟨hlast, ?_⟩
    have heq : n + 1 = d * (n / d + 1) := by
      rw [Nat.mul_add]
      omega
    rw [heq, Nat.mul_mod_right, Nat.mul_div_cancel_left _ hd]
    exact ⟨rfl, rfl⟩
  · refine .inl ⟨hlast, ?_⟩
    have heq : n + 1 = n % d + 1 + d * (n / d) := by omega
    have hsmall : n % d + 1 < d := by omega
    constructor
    · conv_lhs => rw [heq, Nat.add_mul_mod_self_left, Nat.mod_eq_of_lt hsmall]
    · conv_lhs => rw [heq, Nat.add_mul_div_left _ _ hd, Nat.div_eq_of_lt hsmall, Nat.zero_add]

/-- The half periods passed are the passes of the counter. -/
theorem ClockGenerator.div_halfTicks (g : ClockGenerator) (n : Nat) : n / g.halfTicks = n / g.div / (g.cmp + 1) := by
  rw [ClockGenerator.halfTicks, Nat.mul_comm, Nat.div_div_eq_div_mul]

/-- The output after one more half period. -/
theorem odd_succ (q : Nat) : decide ((q + 1) % 2 = 1) = !decide (q % 2 = 1) := by
  rcases Nat.mod_two_eq_zero_or_one q with h | h <;> simp [Nat.add_mod, h]

/-- R106, R112: CG_TICK goes from one tick of the closed form to the next. -/
theorem ClockGenerator.Running.tick_after {c : Config} {g : ClockGenerator} (h : g.Running c) (n : Nat) :
    (g.after n).tick c = g.after (n + 1) := by
  have hdiv : 0 < g.div := Nat.zero_lt_of_lt h.pre_lt
  have hdivne : (g.after n).div ≠ 0 := hdiv.ne'
  have hpreFits := h.div_fits
  have hcntFits := h.cmp_fits
  have hcmp : 0 < g.cmp + 1 := Nat.succ_pos _
  obtain ⟨hne, hmod, hquot⟩ | ⟨hlast, hmod, hquot⟩ := succ_div_mod (n := n) hdiv
  · have hfits : n % g.div + 1 < 2 ^ c.divW := by
      have := Nat.mod_lt n hdiv
      omega
    rw [ClockGenerator.tick_of_prescaling c hdivne hne]
    simp only [ClockGenerator.after, ClockGenerator.div_halfTicks, hmod, hquot, prescalerSucc_of_fits hfits]
  · have htimer : (g.after n).TimerTick := ⟨hdivne, hlast⟩
    obtain ⟨hcne, hcmod, hcquot⟩ | ⟨hclast, hcmod, hcquot⟩ := succ_div_mod (n := n / g.div) hcmp
    · have hfits : n / g.div % (g.cmp + 1) + 1 < 2 ^ c.cntW := by
        have := Nat.mod_lt (n / g.div) hcmp
        omega
      rw [ClockGenerator.tick_of_count c htimer (.inl hcne)]
      simp only [ClockGenerator.after, ClockGenerator.div_halfTicks, hmod, hquot, hcmod, hcquot, countSucc_of_fits hfits]
    · rw [ClockGenerator.tick_of_toggle c ⟨htimer, hclast⟩ h.mode_eq]
      simp only [ClockGenerator.after, ClockGenerator.div_halfTicks, hmod, hquot, hcmod, hcquot, odd_succ, Bool.xor_not]

/-- A Clock Generator in range is within its half period. -/
theorem ClockGenerator.Running.position_lt {c : Config} {g : ClockGenerator} (h : g.Running c) :
    g.position < g.halfTicks := by
  have hpre := h.pre_lt
  have hcnt : (g.cnt + 1) * g.div ≤ (g.cmp + 1) * g.div := Nat.mul_le_mul_right _ (Nat.succ_le_succ h.cnt_le)
  rw [Nat.succ_mul] at hcnt
  unfold ClockGenerator.position ClockGenerator.halfTicks
  omega

/-- The closed form at a Clock Generator's own position is the Clock Generator. -/
theorem ClockGenerator.Running.after_position {c : Config} {g : ClockGenerator} (h : g.Running c) :
    g.after g.position = g := by
  have hdiv : 0 < g.div := Nat.zero_lt_of_lt h.pre_lt
  have hpre : g.position % g.div = g.pre := by
    rw [ClockGenerator.position, Nat.add_comm, Nat.add_mul_mod_self_right, Nat.mod_eq_of_lt h.pre_lt]
  have hcnt : g.position / g.div % (g.cmp + 1) = g.cnt := by
    rw [ClockGenerator.position, Nat.add_comm, Nat.add_mul_div_right _ _ hdiv, Nat.div_eq_of_lt h.pre_lt, Nat.zero_add,
      Nat.mod_eq_of_lt (Nat.lt_succ_of_le h.cnt_le)]
  have hhalf : g.position / g.halfTicks = 0 := Nat.div_eq_of_lt h.position_lt
  simp [ClockGenerator.after, hpre, hcnt, hhalf]

/-- R112: the closed form of a configured Clock Generator after any number of ticks. -/
theorem ClockGenerator.Running.iterate_tick {c : Config} {g : ClockGenerator} (h : g.Running c) (k : Nat) :
    (ClockGenerator.tick c)^[k] g = g.after (g.position + k) := by
  induction k with
  | zero => exact h.after_position.symm
  | succ k ih => rw [Function.iterate_succ_apply', ih, h.tick_after, Nat.add_assoc]

/-- R114: a half period later the counters are the same and the output is the other one. -/
theorem ClockGenerator.after_add_halfTicks {g : ClockGenerator} (hdiv : 0 < g.div) (n : Nat) :
    g.after (n + g.halfTicks) = { g.after n with clkQ := !(g.after n).clkQ } := by
  have hhalf : 0 < g.halfTicks := Nat.mul_pos g.cmp.succ_pos hdiv
  have hpre : (n + g.halfTicks) % g.div = n % g.div := Nat.add_mul_mod_self_right ..
  have hcnt : (n + g.halfTicks) / g.div % (g.cmp + 1) = n / g.div % (g.cmp + 1) := by
    rw [ClockGenerator.halfTicks, Nat.add_mul_div_right _ _ hdiv, Nat.add_mod_right]
  simp only [ClockGenerator.after, hpre, hcnt, Nat.add_div_right _ hhalf, odd_succ, Bool.xor_not]

/-! ### The half period -/

/-- R107, R114: after a half period the output has changed and nothing else has. -/
theorem ClockGenerator.Running.iterate_halfTicks {c : Config} {g : ClockGenerator} (h : g.Running c) (k : Nat) :
    (ClockGenerator.tick c)^[k + g.halfTicks] g =
      { (ClockGenerator.tick c)^[k] g with clkQ := !((ClockGenerator.tick c)^[k] g).clkQ } := by
  rw [h.iterate_tick, h.iterate_tick, ← Nat.add_assoc,
    ClockGenerator.after_add_halfTicks (Nat.zero_lt_of_lt h.pre_lt)]

theorem ClockGenerator.Running.iterate_half {c : Config} {g : ClockGenerator} (h : g.Running c) :
    (ClockGenerator.tick c)^[g.halfTicks] g = { g with clkQ := !g.clkQ } := by
  simpa using h.iterate_halfTicks 0

/-- R114: the Clock Generator is back after two half periods. -/
theorem ClockGenerator.Running.iterate_period {c : Config} {g : ClockGenerator} (h : g.Running c) :
    (ClockGenerator.tick c)^[2 * g.halfTicks] g = g := by
  rw [Nat.two_mul, h.iterate_halfTicks, h.iterate_half]
  simp

/-- R107: up to the end of its half period the output stays. -/
theorem ClockGenerator.Running.clkQ_before {c : Config} {g : ClockGenerator} (h : g.Running c) {j : Nat}
    (hj : g.position + j < g.halfTicks) : ((ClockGenerator.tick c)^[j] g).clkQ = g.clkQ := by
  rw [h.iterate_tick, ClockGenerator.after, Nat.div_eq_of_lt hj]
  simp

/-- R107: in the half period that follows the output is the other one. -/
theorem ClockGenerator.Running.clkQ_behind {c : Config} {g : ClockGenerator} (h : g.Running c) {j : Nat}
    (hle : g.halfTicks ≤ g.position + j) (hlt : g.position + j < 2 * g.halfTicks) :
    ((ClockGenerator.tick c)^[j] g).clkQ = !g.clkQ := by
  have hone : (g.position + j) / g.halfTicks = 1 := Nat.div_eq_of_lt_le (by omega) (by omega)
  rw [h.iterate_tick, ClockGenerator.after, hone]
  simp

/-- Settles O40: the output toggles at the end of the half period that the position is in. -/
theorem clockTogglesEveryHalfPeriod : Obligations.ClockTogglesEveryHalfPeriod := by
  intro c g hmode hpre hcnt hdiv hcmp
  have h : g.Running c := ⟨hmode, hpre, hcnt, hdiv, hcmp⟩
  have hpos := h.position_lt
  refine ⟨h.iterate_half, h.iterate_period, g.halfTicks - 1 - g.position, ?inside, fun j hj => ?before, fun j hlt hle => ?behind⟩
  case inside =>
    show g.halfTicks - 1 - g.position < g.halfTicks
    omega
  case before => exact h.clkQ_before (by omega)
  case behind =>
    have hle : j ≤ g.halfTicks := hle
    exact h.clkQ_behind (by omega) (by omega)

/-! ### After a configuration -/

/-- R113, R20: a Clock Generator configured from a valid record runs. -/
theorem running_of_configured {c : Config} {g : ClockGenerator} (hv : c.Valid) (hmode : g.mode = .toggleOnMatch)
    (hdiv : g.div = c.divider) (hcmp : g.cmp = c.compareValue) (hpre : g.pre < g.div) (hcnt : g.cnt ≤ g.cmp) :
    g.Running c := by
  obtain ⟨-, hoffered, hthreshold, -⟩ := validClock_of_valid hv
  exact ⟨hmode, hpre, hcnt, hdiv ▸ divider_lt_two_pow_divW hoffered, hcmp ▸ compareValue_lt_two_pow_cntW hthreshold⟩

/-- R103 (b): the prescaler of a valid record divides by 1 at least. -/
theorem divider_pos_of_valid {c : Config} (hv : c.Valid) : 0 < c.divider := by
  obtain ⟨-, ⟨-, hpos⟩, -⟩ := validClock_of_valid hv
  exact hpos

/-- R112: the closed form after a configuration, which starts a half period. -/
theorem iterate_tick_configure {c : Config} (hv : c.Valid) (g : ClockGenerator) (k : Nat) :
    (ClockGenerator.tick c)^[k] (g.configure c) =
      { clkOe := true, mode := .toggleOnMatch, div := c.divider, cmp := c.compareValue,
        pre := k % c.divider, cnt := k / c.divider % (c.compareValue + 1),
        clkQ := g.clkQ ^^ decide (k / c.halfPeriod % 2 = 1) } := by
  have h : (g.configure c).Running c :=
    running_of_configured hv rfl rfl rfl (divider_pos_of_valid hv) (Nat.zero_le _)
  have hstart : (g.configure c).position = 0 := by simp [ClockGenerator.position]
  rw [h.iterate_tick, hstart, Nat.zero_add]
  rfl

/-- R105: a configured Clock Generator makes CG_TICK on each tick without reset, whatever else the machine does. -/
theorem ticks_cg_of_configured (k : Nat) {s : State} (hv : s.cfg.Valid) (hmode : s.cg.mode = .toggleOnMatch)
    (hnr : s.NoResetFor k) : ∃ t, ticks k s = .next t ∧ t.cg = (ClockGenerator.tick s.cfg)^[k] s.cg := by
  induction k generalizing s with
  | zero => exact ⟨s, rfl, rfl⟩
  | succ k ih =>
    obtain ⟨r, hr⟩ := exists_step_of_valid hv
    obtain ⟨-, hoff, -⟩ | ⟨-, hcg⟩ := step_cg hr (resetAsserted_of_noResetFor hnr)
    · rw [hmode] at hoff
      cases hoff
    · have hcfg := step_cfg hr
      obtain ⟨t, ht, htcg⟩ := ih (s := r) (by rw [hcfg]; exact hv) (by rw [hcg, ClockGenerator.tick_mode, hmode])
        (noResetFor_after hnr hr)
      refine ⟨t, (ticks_succ_of_step k hr).trans ht, ?_⟩
      rw [htcg, hcfg, hcg, ← Function.iterate_succ_apply]

/-- R109: a configuration wins over the CG_TICK of its tick, which could not have changed the flop. -/
theorem configure_tick_of_off (c : Config) {g : ClockGenerator} (hmode : g.mode = .off) :
    (g.tick c).configure c = g.configure c := by
  rw [ClockGenerator.configure, ClockGenerator.configure, ClockGenerator.tick_clkQ_of_off c hmode]

/-- The state after the tick that accepts a first configuration, with the moves the host has left. -/
def State.afterConfigure (later : List HostMove) (s : State) : State :=
  { s with cg := s.cg.configure s.cfg, host := later, resetLine := s.resetLine.tail }

/-- R109, R208: the tick that accepts a first configuration. -/
theorem step_of_firstConfigure {s : State} {later : List HostMove} (hv : s.cfg.Valid) (hr : s.resetAsserted = false)
    (hu : s.bt.upc = 0) (hmode : s.cg.mode = .off) (hhost : s.host = .present configureClockWord :: later) :
    step s = .next (s.afterConfigure later) := by
  have hfetch : s.fetch = .ok .configureClock := (fetch_of_present hu hhost).trans decodeCmd17_configureClockWord
  have hmode' : s.beginTick.cg.mode = .off := (ClockGenerator.tick_mode ..).trans hmode
  rw [step_of_fetch hv hr hfetch, exec_configureClock_first (s := s.beginTick) hu hmode',
    State.afterConfigure, ← configure_tick_of_off s.cfg hmode, ← hostAfter_of_present hu hhost]
  rfl

/-- Settles O41: the closed form after the configuration, at the level of the flop before it. -/
theorem clockPhaseAfterConfiguration : Obligations.ClockPhaseAfterConfiguration := by
  intro s later k hv hu hmode hhost hnr
  have hstep := step_of_firstConfigure hv (resetAsserted_of_noResetFor hnr) hu hmode hhost
  obtain ⟨t, ht, htcg⟩ := ticks_cg_of_configured k (s := s.afterConfigure later) hv rfl (noResetFor_after hnr hstep)
  rw [State.afterConfigure, iterate_tick_configure hv] at htcg
  refine ⟨t, (ticks_succ_of_step k hstep).trans ht, fun _ => ⟨htcg, ?_⟩⟩
  rw [State.pin_clk_of_enabled (by rw [htcg]), htcg]

/-! ### Frequency -/

/-- A level that is the other one `h` ticks later is high on `h` of `2 * h` ticks. -/
theorem countP_range_two_mul {f : Nat → Bool} {h : Nat} (hf : ∀ j, f (j + h) = !f j) :
    (List.range (2 * h)).countP f = h := by
  have hother : (List.map (h + ·) (List.range h)).countP f = (List.range h).countP fun j => !f j := by
    rw [List.countP_map]
    congr 1
    funext j
    exact (congrArg f (Nat.add_comm h j)).trans (hf j)
  have hsplit := (List.range h).length_eq_countP_add_countP (p := f)
  rw [Nat.two_mul, List.range_add, List.countP_append, hother]
  simpa using hsplit.symm

/-- R102, R103 (d): the tolerance test over the period of the clock, both bounds multiplied out. -/
theorem frequency_bounds {c : Config} (hv : c.Valid) :
    1000000 * c.fSys ≤ (1000000 + c.tolPpm) * (c.clockPeriod * c.fOut) ∧
      1000000 * (c.clockPeriod * c.fOut) ≤ 1000000 * c.fSys + c.tolPpm * (c.clockPeriod * c.fOut) := by
  obtain ⟨-, -, ⟨hnonneg, -⟩, htol⟩ := validClock_of_valid hv
  have hcompare : c.threshold + 1 = ((c.compareValue + 1 : Nat) : Int) := by
    rw [Nat.cast_add, Config.compareValue, Int.toNat_of_nonneg hnonneg, Nat.cast_one]
  have hperiod : 2 * (c.divider : Int) * (c.threshold + 1) * c.fOut = ((c.clockPeriod * c.fOut : Nat) : Int) := by
    rw [hcompare, Config.clockPeriod]
    push_cast
    ring
  rw [Config.FrequencyInTolerance, hperiod, Int.natCast_natAbs] at htol
  generalize c.clockPeriod * c.fOut = p at htol ⊢
  have habove := le_abs_self ((c.fSys : Int) - p)
  have hbelow := neg_abs_le ((c.fSys : Int) - p)
  zify
  constructor <;> linarith

/-- Settles O53: the half period of the record is that of the Clock Generator, and the level is the other one after it. -/
theorem configuredClockKeepsItsFrequency : Obligations.ConfiguredClockKeepsItsFrequency := by
  intro c g hv hmode hdiv hcmp hpre hcnt
  have h := running_of_configured hv hmode hdiv hcmp hpre hcnt
  have hhalf : g.halfTicks = c.halfPeriod := by rw [ClockGenerator.halfTicks, hdiv, hcmp, Config.halfPeriod]
  have hperiod : c.clockPeriod = 2 * c.halfPeriod := by
    unfold Config.clockPeriod Config.halfPeriod
    ring
  rw [hperiod, ← hhalf]
  exact ⟨rfl, h.position_lt.pos, h.iterate_half, h.iterate_period,
    countP_range_two_mul fun j => by rw [h.iterate_halfTicks], by rw [hhalf, ← hperiod]; exact frequency_bounds hv⟩

end Sys2Proof.Machine
end

section
/-!
PROOFS. A whole write (41_bus_transactor.md sections 5 and 6): how many ticks of it are to go, the state after a number of ticks
during it, and the stages it passes, with the latency (R154), the pins at every tick (R149), the state at the end (R153) and the
progress of the sequencer (R173).
-/

namespace Sys2Proof.Machine

open Host

/-! ### Ticks to go -/

/-- The ticks of a write behind those of the micro-operation at an index: those of the waits and one for each of the others
(R132, R154). -/
def ticksBehind (c : Config) (u : MicroIndex) : Nat :=
  match u with
  | 0 => 8 + c.nAs + c.nAh + c.nDw + c.nDh
  | 1 => 7 + c.nAs + c.nAh + c.nDw + c.nDh
  | 2 => 6 + c.nAs + c.nAh + c.nDw + c.nDh
  | 3 => 5 + c.nAs + c.nAh + c.nDw + c.nDh
  | 4 => 5 + c.nAh + c.nDw + c.nDh
  | 5 => 4 + c.nAh + c.nDw + c.nDh
  | 6 => 4 + c.nDw + c.nDh
  | 7 => 3 + c.nDw + c.nDh
  | 8 => 2 + c.nDw + c.nDh
  | 9 => 1 + c.nDw + c.nDh
  | 10 => 1 + c.nDh
  | 11 => c.nDh
  | 12 => 0

/-- The ticks a Bus Transactor needs to rest again. -/
def ticksToRest (c : Config) (b : BusTransactor) : Nat :=
  if b.upc = 0 then 0 else ((waitCount c b.upc).elim 1 fun _ => b.dly) + ticksBehind c b.upc

/-- The ticks behind an index are those of the next one and those behind it. -/
theorem ticksBehind_eq {c : Config} {u : MicroIndex} (hu : u ≠ 12) :
    ticksBehind c u = (waitCount c (u + 1)).getD 1 + ticksBehind c (u + 1) := by
  revert hu
  fin_cases u <;> simp +arith [ticksBehind, waitCount]

theorem ticksToRest_of_rest {c : Config} {b : BusTransactor} (hu : b.upc = 0) : ticksToRest c b = 0 :=
  if_pos hu

theorem ticksToRest_of_busy {c : Config} {b : BusTransactor} (hu : b.upc ≠ 0) :
    ticksToRest c b = ((waitCount c b.upc).elim 1 fun _ => b.dly) + ticksBehind c b.upc :=
  if_neg hu

/-- R148: only the last index is followed by rest. -/
theorem succ_ne_zero_of_ne_last {u : MicroIndex} (hu : u ≠ 12) : u + 1 ≠ 0 := by
  revert u
  decide

/-- At the beginning of the micro-operation that follows an index, the ticks to go are those behind the index. -/
theorem ticksToRest_of_next {c : Config} {u : MicroIndex} {b : BusTransactor} (hupc : b.upc = u + 1)
    (hdly : ∀ n, waitCount c (u + 1) = some n → b.dly = n) : ticksToRest c b = ticksBehind c u := by
  by_cases hu : u = 12
  · subst hu
    exact ticksToRest_of_rest hupc
  · rw [ticksToRest_of_busy (hupc ▸ succ_ne_zero_of_ne_last hu), ticksBehind_eq hu, hupc]
    cases hw : waitCount c (u + 1) with
    | none => rfl
    | some n => rw [Option.elim_some, Option.getD_some, hdly n hw]

/-- One tick of a Bus Transactor during a write. -/
def busTick (c : Config) (b : BusTransactor) : BusTransactor :=
  microEffect b.upc c b

/-- R148, R154: every tick of a write brings it one tick nearer to its end. -/
theorem ticksToRest_busTick {c : Config} {b : BusTransactor} (hu : b.upc ≠ 0) (h : WaitInRange c b) :
    ticksToRest c b = ticksToRest c (busTick c b) + 1 := by
  rw [ticksToRest_of_busy hu, busTick]
  obtain ⟨hw, hupc, hdly⟩ | ⟨⟨n, hw⟩, hlast, hupc, -⟩ | ⟨n, d, hw, hd, -, hupc, hdly⟩ :=
    microEffect_progress hu h
  · have hnext := ticksToRest_of_next hupc fun n hn => by rw [hdly, hn, Option.getD_some]
    rw [hnext, hw, Option.elim_none, Nat.add_comm]
  · have hnext := ticksToRest_of_next (c := c) hupc fun m hm => by
      rw [waitCount_succ_of_wait hw] at hm
      cases hm
    rw [hnext, hw, Option.elim_some, hlast, Nat.add_comm]
  · rw [ticksToRest_of_busy (b := microEffect b.upc c b) (by rw [hupc]; exact hu), hupc, hdly, hw, hd, Option.elim_some, Option.elim_some]
    omega

/-- R154: a write in progress has fewer than `L` ticks to go. -/
theorem ticksToRest_lt {c : Config} {b : BusTransactor} (h : WaitInRange c b) : ticksToRest c b < c.writeLatency := by
  unfold ticksToRest WaitInRange at *
  generalize b.upc = u, b.dly = d at *
  unfold Config.writeLatency
  fin_cases u <;> simp +arith [waitCount, ticksBehind] at h ⊢ <;> omega

/-- R154: from the acceptance of a write there are `L - 1` ticks to go. -/
theorem ticksToRest_of_started (c : Config) (b : BusTransactor) (a v : Byte) :
    ticksToRest c ((b.latchOperands a v).goto 1) + 1 = c.writeLatency := by
  rw [ticksToRest_of_next (u := 0) rfl (by simp [waitCount])]
  simp +arith [ticksBehind, Config.writeLatency]

/-! ### Ticks during a write -/

/-- A number of ticks during a write keep the delay counter in range and shorten the time to go. -/
theorem iterate_busTick {c : Config} {b : BusTransactor} (h : WaitInRange c b) (n : Nat) (hn : n ≤ ticksToRest c b) :
    WaitInRange c ((busTick c)^[n] b) ∧ n + ticksToRest c ((busTick c)^[n] b) = ticksToRest c b := by
  induction n with
  | zero => exact ⟨h, Nat.zero_add _⟩
  | succ n ih =>
    obtain ⟨hrange, htogo⟩ := ih (by omega)
    have hu : ((busTick c)^[n] b).upc ≠ 0 := by
      intro hrest
      rw [ticksToRest_of_rest hrest] at htogo
      omega
    have hnext := ticksToRest_busTick hu hrange
    rw [Function.iterate_succ_apply']
    exact ⟨microEffect_waitInRange hu hrange, by omega⟩

/-- The state `n` ticks later, while a write is in progress: the Bus Transactor and the Clock Generator go on, the host's
presented command waits (R105, R157). -/
def State.duringWrite (n : Nat) (s : State) : State :=
  { s with
    bt := (busTick s.cfg)^[n] s.bt
    cg := (ClockGenerator.tick s.cfg)^[n] s.cg
    host := holdMoves^[n] s.host
    resetLine := s.resetLine.drop n }

@[simp] theorem State.duringWrite_cfg (n : Nat) (s : State) : (s.duringWrite n).cfg = s.cfg := rfl
@[simp] theorem State.duringWrite_bt (n : Nat) (s : State) : (s.duringWrite n).bt = (busTick s.cfg)^[n] s.bt := rfl

/-- A tick and `n` more are `n + 1`. -/
theorem State.duringWrite_succ (n : Nat) (s : State) : (s.duringWrite 1).duringWrite n = s.duringWrite (n + 1) := by
  simp only [State.duringWrite, Function.iterate_succ_apply, Function.iterate_zero_apply, List.drop_drop, Nat.add_comm 1 n]

/-- R148, R157: one tick during a write. -/
theorem step_during_write {s : State} (hv : s.cfg.Valid) (hr : s.resetAsserted = false) (hu : s.bt.upc ≠ 0) :
    step s = .next (s.duringWrite 1) := by
  have hhost : s.beginTick.host = holdMoves s.host := State.hostAfter_of_busy hu
  have hline : s.resetLine.tail = s.resetLine.drop 1 := List.drop_one.symm
  rw [step_of_busy hv hr hu]
  simp only [State.duringWrite, State.onBt, Function.iterate_one, ← hhost, ← hline]
  rfl

theorem upc_ne_zero_of_ticksToRest {c : Config} {b : BusTransactor} (h : 0 < ticksToRest c b) : b.upc ≠ 0 := by
  intro hu
  rw [ticksToRest_of_rest hu] at h
  exact absurd h (Nat.lt_irrefl 0)

/-- R148, R157: any number of ticks during a write. -/
theorem ticks_during_write (n : Nat) {s : State} (hv : s.cfg.Valid) (h : WaitInRange s.cfg s.bt)
    (hn : n ≤ ticksToRest s.cfg s.bt) (hnr : s.NoResetFor n) : ticks n s = .next (s.duringWrite n) := by
  induction n generalizing s with
  | zero => rfl
  | succ n ih =>
    have hu := upc_ne_zero_of_ticksToRest (Nat.lt_of_lt_of_le n.succ_pos hn)
    have hstep := step_during_write hv (resetAsserted_of_noResetFor hnr) hu
    obtain ⟨hrange, htogo⟩ := iterate_busTick h 1 (by omega)
    have hleft : n ≤ ticksToRest s.cfg ((busTick s.cfg)^[1] s.bt) := by omega
    rw [ticks_succ_of_step n hstep, ih (s := s.duringWrite 1) hv hrange hleft (noResetFor_after hnr hstep),
      State.duringWrite_succ]

/-- Settles O54: the ticks to go are fewer than `L`, and after them the sequencer rests. -/
theorem writeInProgressReachesRest : Obligations.WriteInProgressReachesRest := by
  intro s hv hinv hnr
  have hrange := (delayConsistent_iff.mp hinv.2.1).2
  have hlt := ticksToRest_lt hrange
  have hnr' : s.NoResetFor (ticksToRest s.cfg s.bt) := fun level hl =>
    hnr level (List.take_subset_take_left s.resetLine hlt.le hl)
  refine ⟨_, _, hlt, ticks_during_write _ hv hrange le_rfl hnr', ?_⟩
  obtain ⟨hrange', htogo⟩ := iterate_busTick hrange _ le_rfl
  by_contra hu
  have hmore := ticksToRest_busTick hu hrange'
  rw [State.duringWrite_bt] at hmore
  omega

/-! ### The stages of a write -/

/-- The byte on the bus at an index of a write of `v` to `a` (R24): the stale byte, then the address, then the value. -/
def stageByte (stale a v : Byte) (u : MicroIndex) : Byte :=
  if u = 1 ∨ u = 2 ∨ u = 3 then stale else if 4 ≤ u ∧ u ≤ 8 then a else v

/-- The bus direction at an index of a write (R25). -/
def stageDir (before : BusDirection) (u : MicroIndex) : BusDirection :=
  if u = 1 then before else .driver

/-- The control-line code at an index of a write: A_MODE is the first to write it (R26). -/
def stageCode (c : Config) (before : ControlCode) (u : MicroIndex) : ControlCode :=
  if u = 1 ∨ u = 2 then before else codeAt c u

/-- A Bus Transactor in the course of the write of `v` to `a` that `b₀` accepted, or at its end. -/
structure WriteStage (c : Config) (b₀ : BusTransactor) (a v : Byte) (b : BusTransactor) : Prop where
  areg_eq : b.areg = a
  vreg_eq : b.vreg = v
  busOut_eq : b.busOut = stageByte b₀.busOut a v b.upc
  busDir_eq : b.busDir = stageDir b₀.busDir b.upc
  ctl_eq : b.ctl = stageCode c b₀.ctl b.upc
  inRange : WaitInRange c b
  dly_eq : b.upc = 1 ∨ b.upc = 2 ∨ b.upc = 3 ∨ (waitCount c b.upc = none → b.dly = 0)

/-- R131: the acceptance of a write is its first stage. -/
theorem WriteStage.start (c : Config) (b₀ : BusTransactor) (a v : Byte) :
    WriteStage c b₀ a v ((b₀.latchOperands a v).goto 1) :=
  ⟨rfl, rfl, rfl, rfl, rfl, by simp [WaitInRange, waitCount], .inl rfl⟩

/-- R135 to R146: what the micro-operation of an index writes is what stands at the index the sequencer goes to. -/
theorem stage_next (c : Config) (d₀ : BusDirection) (o₀ a v : Byte) (x₀ : ControlCode) {u u' : MicroIndex} (hu : u ≠ 0)
    (hupc : u' = u + 1 ∨ ((u = 4 ∨ u = 6 ∨ u = 10 ∨ u = 12) ∧ u' = u)) :
    (if u = 3 then a else if u = 8 then v else stageByte o₀ a v u) = stageByte o₀ a v u' ∧
    (if u = 1 ∨ u = 7 then .driver else stageDir d₀ u) = stageDir d₀ u' ∧
    (if u = 2 then c.ctlCodeAl else if u = 9 then c.ctlCodeDw else if u = 5 ∨ u = 11 then idleCode
      else stageCode c x₀ u) = stageCode c x₀ u' := by
  obtain rfl | ⟨hwait, rfl⟩ := hupc
  · fin_cases u
    · exact absurd rfl hu
    all_goals exact ⟨rfl, rfl, rfl⟩
  · rcases hwait with rfl | rfl | rfl | rfl <;> exact ⟨rfl, rfl, rfl⟩

/-- R132: from A_DRIVE on the delay counter is 0 outside the waits. -/
theorem WriteStage.dly_busTick {c : Config} {b₀ b : BusTransactor} {a v : Byte} (h : WriteStage c b₀ a v b)
    (hu : b.upc ≠ 0) : (busTick c b).upc = 1 ∨ (busTick c b).upc = 2 ∨ (busTick c b).upc = 3 ∨
      (waitCount c (busTick c b).upc = none → (busTick c b).dly = 0) := by
  obtain hearly | hearly | hearly | hzero := h.dly_eq
  · have hupc : (busTick c b).upc = 2 := by rw [busTick, hearly]; rfl
    exact .inr (.inl hupc)
  · have hupc : (busTick c b).upc = 3 := by rw [busTick, hearly]; rfl
    exact .inr (.inr (.inl hupc))
  · have hupc : (busTick c b).upc = 4 := by rw [busTick, hearly]; rfl
    exact .inr (.inr (.inr fun hw => by rw [hupc] at hw; cases hw))
  · exact .inr (.inr (.inr (microEffect_dly_eq_zero hu h.inRange hzero)))

/-- R135 to R146: a tick of a write goes from stage to stage. -/
theorem WriteStage.tick {c : Config} {b₀ b : BusTransactor} {a v : Byte} (h : WriteStage c b₀ a v b) (hu : b.upc ≠ 0) :
    WriteStage c b₀ a v (busTick c b) := by
  obtain ⟨hbyte, hdir, hcode⟩ :=
    stage_next c b₀.busDir b₀.busOut a v b₀.ctl hu (microEffect_upc_cases hu h.inRange)
  refine ⟨?areg, ?vreg, ?busOut, ?busDir, ?ctl, microEffect_waitInRange hu h.inRange, h.dly_busTick hu⟩
  case areg => exact (microEffect_areg ..).trans h.areg_eq
  case vreg => exact (microEffect_vreg ..).trans h.vreg_eq
  case busOut => exact (microEffect_busOut ..).trans (by rw [h.areg_eq, h.vreg_eq, h.busOut_eq]; exact hbyte)
  case busDir => exact (microEffect_busDir ..).trans (by rw [h.busDir_eq]; exact hdir)
  case ctl => exact (microEffect_ctl ..).trans (by rw [h.ctl_eq]; exact hcode)

/-- A number of ticks of a write go from stage to stage. -/
theorem WriteStage.iterate {c : Config} {b₀ b : BusTransactor} {a v : Byte} (h : WriteStage c b₀ a v b) (n : Nat)
    (hn : n ≤ ticksToRest c b) : WriteStage c b₀ a v ((busTick c)^[n] b) := by
  induction n with
  | zero => exact h
  | succ n ih =>
    obtain ⟨-, htogo⟩ := iterate_busTick h.inRange n (by omega)
    rw [Function.iterate_succ_apply']
    exact (ih (by omega)).tick (upc_ne_zero_of_ticksToRest (c := c) (by omega))

/-- R154: with no tick to go the sequencer rests. -/
theorem upc_eq_zero_iff_ticksToRest {c : Config} {b : BusTransactor} (h : WaitInRange c b) :
    b.upc = 0 ↔ ticksToRest c b = 0 := by
  refine ⟨ticksToRest_of_rest, fun hzero => ?_⟩
  by_contra hu
  have := ticksToRest_busTick hu h
  omega

/-- R153: the Bus Transactor at the end of a write. -/
theorem WriteStage.eq_of_rest {c : Config} {b₀ b : BusTransactor} {a v : Byte} (h : WriteStage c b₀ a v b)
    (hu : b.upc = 0) :
    b = { upc := 0, areg := a, vreg := v, busOut := v, busDir := .driver, ctl := 0b00#2, dly := 0 } := by
  obtain ⟨hareg, hvreg, hbyte, hdir, hcode, -, hdly⟩ := h
  rw [hu] at hbyte hdir hcode hdly
  have hzero : b.dly = 0 := by
    obtain h1 | h2 | h3 | hzero := hdly
    · cases h1
    · cases h2
    · cases h3
    · exact hzero rfl
  calc b = ⟨b.upc, b.areg, b.vreg, b.busOut, b.busDir, b.ctl, b.dly⟩ := rfl
    _ = _ := by rw [hu, hareg, hvreg, hbyte, hdir, hcode, hzero]; rfl

/-- R149: the pins of a write `k` ticks after it was presented, by the index that the ticks to go leave the sequencer at. -/
theorem writePins_eq {c : Config} {b : BusTransactor} {k : Nat} (hrange : WaitInRange c b)
    (hk : k + ticksToRest c b = c.writeLatency) (d₀ : BusDirection) (o₀ a v : Byte) :
    writePins c d₀ o₀ a v k = (stageCode c 0b00#2 b.upc, stageDir d₀ b.upc, stageByte o₀ a v b.upc) := by
  unfold ticksToRest WaitInRange Config.writeLatency waitCount ticksBehind at *
  unfold writePins
  generalize b.upc = u, b.dly = d, c.nAs = nAs, c.nAh = nAh, c.nDw = nDw, c.nDh = nDh at *
  fin_cases u
  all_goals
    simp at hrange hk
    simp (disch := omega) only [if_neg, if_pos]
    rfl

/-! ### A whole write -/

/-- The state after the tick that accepts a write (R131), with the moves the host has left. -/
def State.afterAcceptance (a v : Byte) (later : List HostMove) (s : State) : State :=
  { s with
    bt := (s.bt.latchOperands a v).goto 1
    cg := s.cg.tick s.cfg
    host := later
    resetLine := s.resetLine.tail }

/-- R131, R208: the tick that accepts a write. -/
theorem step_of_write {s : State} {a v : Byte} {later : List HostMove} (hv : s.cfg.Valid) (hr : s.resetAsserted = false)
    (hu : s.bt.upc = 0) (hhost : s.host = .present (writeRegisterWord a v) :: later) :
    step s = .next (s.afterAcceptance a v later) := by
  have hfetch : s.fetch = .ok (.writeRegister a v) :=
    (fetch_of_present hu hhost).trans (decodeCmd17_writeRegisterWord a v)
  have haccept : exec (.writeRegister a v) s.beginTick = .next (s.beginTick.accept (State.startWrite a v)) := rfl
  rw [step_of_fetch hv hr hfetch, haccept, State.accept_of_rest (s := s.beginTick) hu,
    ← hostAfter_of_present hu hhost]
  rfl

/-- R131, R148: the state `n + 1` ticks after a write was presented. -/
theorem ticks_of_write {s : State} {a v : Byte} {later : List HostMove} {n : Nat} (hv : s.cfg.Valid) (hu : s.bt.upc = 0)
    (hhost : s.host = .present (writeRegisterWord a v) :: later) (hn : n + 1 ≤ s.cfg.writeLatency)
    (hnr : s.NoResetFor (n + 1)) : ticks (n + 1) s = .next ((s.afterAcceptance a v later).duringWrite n) := by
  have hstep := step_of_write hv (resetAsserted_of_noResetFor hnr) hu hhost
  have hstart := WriteStage.start s.cfg s.bt a v
  have htogo := ticksToRest_of_started s.cfg s.bt a v
  rw [ticks_succ_of_step n hstep]
  exact ticks_during_write n hv hstart.inRange (Nat.le_of_lt_succ (Nat.lt_of_lt_of_eq hn htogo.symm))
    (noResetFor_after hnr hstep)

/-- The stage and the ticks to go `n + 1` ticks after a write was presented. -/
theorem stage_of_write (c : Config) (b₀ : BusTransactor) (a v : Byte) {n : Nat} (hn : n + 1 ≤ c.writeLatency) :
    WriteStage c b₀ a v ((busTick c)^[n] ((b₀.latchOperands a v).goto 1)) ∧
      n + 1 + ticksToRest c ((busTick c)^[n] ((b₀.latchOperands a v).goto 1)) = c.writeLatency := by
  have hstart := WriteStage.start c b₀ a v
  have htogo := ticksToRest_of_started c b₀ a v
  obtain ⟨-, hless⟩ := iterate_busTick hstart.inRange n (by omega)
  exact ⟨hstart.iterate n (by omega), by omega⟩

/-- Settles O47: from the first tick on the pins are those of a stage, whose index the ticks to go determine. -/
theorem writePinsFollowBusContract : Obligations.WritePinsFollowBusContract := by
  intro s a v later k hv hu hctl hhost hk hnr
  cases k with
  | zero =>
    have hpos : s.cfg.writeLatency ≠ 0 := by simp [Config.writeLatency]
    exact ⟨s, rfl, by rw [hctl]; rfl, by simp [hu, hpos.symm]⟩
  | succ n =>
    obtain ⟨hstage, htogo⟩ := stage_of_write s.cfg s.bt a v hk
    refine ⟨_, ticks_of_write hv hu hhost hk hnr, ?pins, ?rest⟩
    case pins =>
      rw [writePins_eq hstage.inRange htogo, ← hctl, ← hstage.ctl_eq, ← hstage.busDir_eq, ← hstage.busOut_eq]
      rfl
    case rest =>
      refine (upc_eq_zero_iff_ticksToRest hstage.inRange).trans ?_
      omega

/-- R153: the Bus Transactor when a write is over. -/
def written (a v : Byte) : BusTransactor :=
  { upc := 0, areg := a, vreg := v, busOut := v, busDir := .driver, ctl := 0b00#2, dly := 0 }

theorem one_le_writeLatency (c : Config) : 1 ≤ c.writeLatency := by
  unfold Config.writeLatency
  omega

/-- R153, R154: after `L` ticks the Bus Transactor has done with the write. -/
theorem iterate_busTick_eq_written (c : Config) (b₀ : BusTransactor) (a v : Byte) :
    (busTick c)^[c.writeLatency - 1] ((b₀.latchOperands a v).goto 1) = written a v := by
  have hpos := one_le_writeLatency c
  obtain ⟨hstage, htogo⟩ := stage_of_write c b₀ a v (n := c.writeLatency - 1) (by omega)
  exact hstage.eq_of_rest ((upc_eq_zero_iff_ticksToRest hstage.inRange).mpr (by omega))

/-- The state when a write is over (R153, R154), with the moves the host had left at its acceptance. -/
def State.afterWrite (a v : Byte) (later : List HostMove) (s : State) : State :=
  { s with
    bt := written a v
    cg := (ClockGenerator.tick s.cfg)^[s.cfg.writeLatency] s.cg
    host := holdMoves^[s.cfg.writeLatency - 1] later
    resetLine := s.resetLine.drop s.cfg.writeLatency }

/-- R154: the `L - 1` ticks behind the acceptance end the write. -/
theorem State.duringWrite_afterAcceptance (a v : Byte) (later : List HostMove) (s : State) :
    (s.afterAcceptance a v later).duringWrite (s.cfg.writeLatency - 1) = s.afterWrite a v later := by
  have hbt := iterate_busTick_eq_written s.cfg s.bt a v
  obtain ⟨n, hn⟩ := Nat.exists_eq_add_of_le' (one_le_writeLatency s.cfg)
  rw [hn, Nat.add_sub_cancel] at hbt ⊢
  simp only [State.duringWrite, State.afterAcceptance, State.afterWrite, hn, Nat.add_sub_cancel, hbt, List.drop_tail,
    Function.iterate_succ_apply]

/-- Settles O48: `L` ticks are the acceptance and the `L - 1` ticks that end the write. -/
theorem completedWriteLeavesStatedState : Obligations.CompletedWriteLeavesStatedState := by
  intro s a v later hv hu hhost hnr
  have hlatency := Nat.sub_add_cancel (one_le_writeLatency s.cfg)
  have hticks := ticks_of_write (n := s.cfg.writeLatency - 1) hv hu hhost hlatency.le (by rw [hlatency]; exact hnr)
  rw [hlatency, State.duringWrite_afterAcceptance] at hticks
  exact hticks

end Sys2Proof.Machine
end

section
/-!
PROOFS. The observer of the pins and whole programs (41_bus_transactor.md section 6, 70_reset_and_hazards.md section 5): what the
observer does at a transition (R155), during a write, over a program of writes and over a program from reset (R194), and that the
run of a program ends when its last write does (R209).
-/

namespace Sys2Proof.Machine

open Host

/-! ### The observer at a transition -/

/-- R155: between legal codes the observer interprets the transition. -/
theorem Observer.observe_of_legal (o : Observer) {before after : State} (hbefore : before.bt.ctl ≠ 0b11#2)
    (hafter : after.bt.ctl ≠ 0b11#2) : o.observe before after = some (o.strobe before after) :=
  if_neg (not_or.mpr ⟨hbefore, hafter⟩)

/-- R82: neither phase's code is the idle one. -/
theorem Phase.code_ne_idle {c : Config} (h : c.ValidCodes) (p : Phase) : p.code c ≠ 0b00#2 := by
  rcases p.code_of_validCodes h with hcode | hcode <;> rw [hcode] <;> decide

/-- R155: no strobe where the lines were idle before, or are not idle after. -/
theorem Observer.strobe_of_quiet (o : Observer) {before after : State} (hcodes : before.cfg.ValidCodes)
    (h : before.bt.ctl = 0b00#2 ∨ after.bt.ctl ≠ 0b00#2) : o.strobe before after = o := by
  unfold Observer.strobe
  obtain hidle | hmode := h
  · have hal : before.bt.ctl ≠ before.cfg.ctlCodeAl := hidle ▸ (Phase.address.code_ne_idle hcodes).symm
    have hdw : before.bt.ctl ≠ before.cfg.ctlCodeDw := hidle ▸ (Phase.data.code_ne_idle hcodes).symm
    simp only [if_neg hal, if_neg hdw]
    split
    · split <;> rfl
    · rfl
  · exact if_neg hmode

/-- R155: while the lines stay idle an observer records nothing. -/
theorem Observer.observe_of_idle (o : Observer) {before after : State} (hcodes : before.cfg.ValidCodes)
    (hbefore : before.bt.ctl = 0b00#2) (hafter : after.bt.ctl = 0b00#2) : o.observe before after = some o := by
  rw [o.observe_of_legal (by rw [hbefore]; decide) (by rw [hafter]; decide), o.strobe_of_quiet hcodes (.inl hbefore)]

/-- R155: the address strobe latches the byte on the pins. -/
theorem Observer.strobe_of_address (o : Observer) {before after : State} {byte : Byte}
    (hbefore : before.bt.ctl = before.cfg.ctlCodeAl) (hafter : after.bt.ctl = 0b00#2) (hpins : after.dataPins = some byte) :
    o.strobe before after = { o with latched := some byte } := by
  rw [Observer.strobe, if_pos hafter, hpins]
  exact if_pos hbefore

/-- R155: the data strobe records the byte on the pins with the address latched. -/
theorem Observer.strobe_of_data (o : Observer) {before after : State} {address byte : Byte}
    (hcodes : before.cfg.ValidCodes) (hbefore : before.bt.ctl = before.cfg.ctlCodeDw) (hafter : after.bt.ctl = 0b00#2)
    (hpins : after.dataPins = some byte) (hlatched : o.latched = some address) :
    o.strobe before after = { o with writes := o.writes ++ [(address, byte)] } := by
  have hne : before.bt.ctl ≠ before.cfg.ctlCodeAl := by
    rw [hbefore]
    obtain ⟨hal, hdw⟩ | ⟨hal, hdw⟩ := hcodes <;> rw [hal, hdw] <;> decide
  rw [Observer.strobe, if_pos hafter, hpins]
  simp only [if_neg hne, if_pos hbefore, hlatched]

theorem State.dataPins_of_driver {s : State} (h : s.bt.busDir = .driver) : s.dataPins = some s.bt.busOut := by
  rw [State.dataPins, h]

/-! ### The observer during a write -/

/-- What an observer has seen at an index of a write of `v` to `a`: nothing of it, its address, or all of it. -/
def Observer.atStage (o : Observer) (a v : Byte) (u : MicroIndex) : Observer :=
  if 1 ≤ u ∧ u ≤ 5 then o
  else if 6 ≤ u ∧ u ≤ 11 then { o with latched := some a }
  else { latched := some a, writes := o.writes ++ [(a, v)] }

/-- R139, R145: at an index without a strobe the lines are idle before the tick or not idle after it, and nothing is seen. -/
theorem quiet_of_no_strobe {c : Config} (hcodes : c.ValidCodes) {u u' : MicroIndex} (hu : u ≠ 0) (h5 : u ≠ 5)
    (h11 : u ≠ 11) (hupc : u' = u + 1 ∨ ((u = 4 ∨ u = 6 ∨ u = 10 ∨ u = 12) ∧ u' = u)) :
    (codeAt c u = 0b00#2 ∨ codeAt c u' ≠ 0b00#2) ∧ ∀ o a v, Observer.atStage o a v u' = o.atStage a v u := by
  have hal : c.ctlCodeAl ≠ 0b00#2 := Phase.address.code_ne_idle hcodes
  have hdw : c.ctlCodeDw ≠ 0b00#2 := Phase.data.code_ne_idle hcodes
  obtain rfl | ⟨hwait, rfl⟩ := hupc
  · match u with
    | 0 => exact absurd rfl hu
    | 5 => exact absurd rfl h5
    | 11 => exact absurd rfl h11
    | 3 | 4 => exact ⟨.inr hal, fun _ _ _ => rfl⟩
    | 10 => exact ⟨.inr hdw, fun _ _ _ => rfl⟩
    | 1 | 2 | 6 | 7 | 8 | 9 | 12 => exact ⟨.inl rfl, fun _ _ _ => rfl⟩
  · rcases hwait with rfl | rfl | rfl | rfl
    · exact ⟨.inr hal, fun _ _ _ => rfl⟩
    · exact ⟨.inl rfl, fun _ _ _ => rfl⟩
    · exact ⟨.inr hdw, fun _ _ _ => rfl⟩
    · exact ⟨.inl rfl, fun _ _ _ => rfl⟩

/-- With the lines idle at its acceptance, a write has at every stage the code of its index (R152 (b)). -/
theorem WriteStage.ctl_eq_codeAt {c : Config} {b₀ b : BusTransactor} {a v : Byte} (h : WriteStage c b₀ a v b)
    (hidle : b₀.ctl = 0b00#2) : b.ctl = codeAt c b.upc := by
  rw [h.ctl_eq, hidle, stageCode]
  split_ifs with hearly
  · obtain hupc | hupc := hearly <;> rw [hupc] <;> rfl
  · rfl

/-- R155: a tick of a write shows the observer what there is to see at the stage it leads to. -/
theorem observe_busTick {s t : State} {b₀ : BusTransactor} {a v : Byte} (hcodes : s.cfg.ValidCodes)
    (h : WriteStage s.cfg b₀ a v s.bt) (hidle : b₀.ctl = 0b00#2) (hu : s.bt.upc ≠ 0) (hbt : t.bt = busTick s.cfg s.bt)
    (o : Observer) : (o.atStage a v s.bt.upc).observe s t = some (o.atStage a v t.bt.upc) := by
  have h' : WriteStage s.cfg b₀ a v t.bt := hbt ▸ h.tick hu
  have hctl := h.ctl_eq_codeAt hidle
  have hctl' := h'.ctl_eq_codeAt hidle
  have hupc := microEffect_upc_cases hu h.inRange
  rw [← busTick, ← hbt] at hupc
  rw [Observer.observe_of_legal _ (hctl ▸ codeAt_ne_reserved hcodes _) (hctl' ▸ codeAt_ne_reserved hcodes _)]
  congr 1
  by_cases h5 : s.bt.upc = 5
  · have hnext : t.bt.upc = 6 := by simpa [h5] using hupc
    have hpins : t.dataPins = some a := by
      rw [State.dataPins_of_driver (by rw [h'.busDir_eq, hnext]; rfl), h'.busOut_eq, hnext]
      rfl
    rw [Observer.strobe_of_address _ (by rw [hctl, h5]; rfl) (by rw [hctl', hnext]; rfl) hpins, h5, hnext]
    rfl
  by_cases h11 : s.bt.upc = 11
  · have hnext : t.bt.upc = 12 := by simpa [h11] using hupc
    have hpins : t.dataPins = some v := by
      rw [State.dataPins_of_driver (by rw [h'.busDir_eq, hnext]; rfl), h'.busOut_eq, hnext]
      rfl
    rw [Observer.strobe_of_data (address := a) _ hcodes (by rw [hctl, h11]; rfl) (by rw [hctl', hnext]; rfl) hpins
      (by rw [h11]; rfl), h11, hnext]
    rfl
  · obtain ⟨hquiet, hstage⟩ := quiet_of_no_strobe hcodes hu h5 h11 hupc
    rw [hstage, Observer.strobe_of_quiet _ hcodes (by rw [hctl, hctl']; exact hquiet)]

theorem observedTicks_succ {s t : State} {o o' : Observer} (n : Nat) (hstep : step s = .next t)
    (hobserve : o.observe s t = some o') : observedTicks (n + 1) s o = observedTicks n t o' := by
  simp only [observedTicks, hstep, hobserve]

/-- Observed ticks compose. -/
theorem observedTicks_add {s t : State} {o o' : Observer} {m : Nat} (n : Nat)
    (h : observedTicks m s o = some (t, o')) : observedTicks (m + n) s o = observedTicks n t o' := by
  induction m generalizing s o with
  | zero =>
    obtain ⟨rfl, rfl⟩ := Prod.mk.inj (Option.some.inj h)
    rw [Nat.zero_add]
  | succ m ih =>
    rw [Nat.succ_add]
    simp only [observedTicks] at h ⊢
    split at h
    · split at h
      · exact ih h
      · cases h
    · cases h
    · cases h

/-- R155: what an observer has seen after any number of ticks during a write. -/
theorem observedTicks_during_write (n : Nat) {s : State} {b₀ : BusTransactor} {a v : Byte} (hv : s.cfg.Valid)
    (h : WriteStage s.cfg b₀ a v s.bt) (hidle : b₀.ctl = 0b00#2) (hn : n ≤ ticksToRest s.cfg s.bt)
    (hnr : s.NoResetFor n) (o : Observer) :
    observedTicks n s (o.atStage a v s.bt.upc) =
      some (s.duringWrite n, o.atStage a v (s.duringWrite n).bt.upc) := by
  induction n generalizing s with
  | zero => rfl
  | succ n ih =>
    have hu := upc_ne_zero_of_ticksToRest (Nat.lt_of_lt_of_le n.succ_pos hn)
    have hstep := step_during_write hv (resetAsserted_of_noResetFor hnr) hu
    have hless := ticksToRest_busTick hu h.inRange
    rw [observedTicks_succ n hstep (observe_busTick (validCodes_of_valid hv) h hidle hu rfl o),
      ih (s := s.duringWrite 1) hv (h.tick hu) (Nat.le_of_lt_succ (Nat.lt_of_lt_of_eq hn hless)) (noResetFor_after hnr hstep),
      State.duringWrite_succ]

/-- R155: over a whole write an observer sees that write. -/
theorem observedTicks_of_write {s : State} {a v : Byte} {later : List HostMove} (hv : s.cfg.Valid) (hu : s.bt.upc = 0)
    (hidle : s.bt.ctl = 0b00#2) (hhost : s.host = .present (writeRegisterWord a v) :: later)
    (hnr : s.NoResetFor s.cfg.writeLatency) (o : Observer) :
    observedTicks s.cfg.writeLatency s o =
      some (s.afterWrite a v later, { latched := some a, writes := o.writes ++ [(a, v)] }) := by
  have hlatency := Nat.sub_add_cancel (one_le_writeLatency s.cfg)
  have hstart := WriteStage.start s.cfg s.bt a v
  have htogo := ticksToRest_of_started s.cfg s.bt a v
  rw [← hlatency] at hnr
  have hstep := step_of_write hv (resetAsserted_of_noResetFor hnr) hu hhost
  have hwrite := observedTicks_during_write (s.cfg.writeLatency - 1) (s := s.afterAcceptance a v later) hv hstart hidle
    (Nat.sub_le_of_le_add htogo.ge) (noResetFor_after hnr hstep) o
  rw [State.duringWrite_afterAcceptance] at hwrite
  conv_lhs => rw [← hlatency]
  exact (observedTicks_succ _ hstep (o.observe_of_idle (validCodes_of_valid hv) hidle hidle)).trans hwrite

/-! ### A program of writes -/

/-- The command words of a program of writes. -/
def writeWords (program : List (Byte × Byte)) : List CommandWord :=
  program.map fun w => writeRegisterWord w.1 w.2

/-- The state when a program of writes is over: the Bus Transactor as the last write leaves it, the Clock Generator as many
ticks on as the writes take. -/
def State.afterWrites (program : List (Byte × Byte)) (s : State) : State :=
  { s with
    bt := (program.getLast?.map fun w => written w.1 w.2).getD s.bt
    cg := (ClockGenerator.tick s.cfg)^[program.length * s.cfg.writeLatency] s.cg
    host := []
    resetLine := s.resetLine.drop (program.length * s.cfg.writeLatency) }

/-- R208: a host that presents its commands without a rest keeps them while the port is busy. -/
theorem iterate_holdMoves_hostOf (words : List CommandWord) (n : Nat) : holdMoves^[n] (hostOf words) = hostOf words := by
  have hfixed : holdMoves (hostOf words) = hostOf words := by cases words <;> rfl
  exact Function.iterate_fixed hfixed n

/-- The first write of a program and the later ones are the program. -/
theorem State.afterWrites_cons (w : Byte × Byte) (later : List (Byte × Byte)) (moves : List HostMove) (s : State) :
    (s.afterWrite w.1 w.2 moves).afterWrites later = s.afterWrites (w :: later) := by
  have hbt : (later.getLast?.map fun w => written w.1 w.2).getD (written w.1 w.2) =
      ((w :: later).getLast?.map fun w => written w.1 w.2).getD s.bt := by
    rw [List.getLast?_cons]
    cases later.getLast? <;> rfl
  have hticks : (w :: later).length * s.cfg.writeLatency =
      later.length * s.cfg.writeLatency + s.cfg.writeLatency := by
    rw [List.length_cons, Nat.succ_mul]
  simp only [State.afterWrites, State.afterWrite, hbt, hticks, Function.iterate_add_apply, List.drop_drop,
    Nat.add_comm s.cfg.writeLatency]

theorem noReset_afterWrite {s : State} (hnr : s.NoReset) (a v : Byte) (later : List HostMove) :
    (s.afterWrite a v later).NoReset :=
  fun level hl => hnr level (List.mem_of_mem_drop hl)

/-- R155: over a program of writes, from rest, an observer sees the writes in order. -/
theorem observedTicks_of_program {program : List (Byte × Byte)} {s : State} (hv : s.cfg.Valid) (hu : s.bt.upc = 0)
    (hidle : s.bt.ctl = 0b00#2) (hhost : s.host = hostOf (writeWords program)) (hnr : s.NoReset) (o : Observer) :
    ∃ o', observedTicks (program.length * s.cfg.writeLatency) s o = some (s.afterWrites program, o') ∧
      o'.writes = o.writes ++ program := by
  induction program generalizing s o with
  | nil =>
    have hend : s.afterWrites [] = s := by
      calc s.afterWrites [] = { s with host := [] } := by simp [State.afterWrites]
        _ = s := by rw [show [] = s.host from hhost.symm]
    exact ⟨o, by rw [List.length_nil, Nat.zero_mul, hend]; rfl, (List.append_nil _).symm⟩
  | cons w later ih =>
    have hfirst := observedTicks_of_write hv hu hidle hhost (noResetFor_of_noReset _ hnr) o
    obtain ⟨o', hlater, hwrites⟩ := ih (s := s.afterWrite w.1 w.2 (hostOf (writeWords later))) hv rfl rfl
      (iterate_holdMoves_hostOf _ _) (noReset_afterWrite hnr _ _ _) { latched := some w.1, writes := o.writes ++ [w] }
    refine ⟨o', ?_, by rw [hwrites, List.append_assoc, List.singleton_append]⟩
    rw [List.length_cons, Nat.succ_mul, Nat.add_comm, observedTicks_add _ hfirst, ← State.afterWrites_cons]
    exact hlater

/-- R153: after a program of writes the Bus Transactor rests with the lines idle, if it did before. -/
theorem State.afterWrites_rest {s : State} (hu : s.bt.upc = 0) (hidle : s.bt.ctl = 0b00#2) (program : List (Byte × Byte)) :
    (s.afterWrites program).bt.upc = 0 ∧ (s.afterWrites program).bt.ctl = 0b00#2 := by
  unfold State.afterWrites
  cases program.getLast? with
  | none => exact ⟨hu, hidle⟩
  | some w => exact ⟨rfl, rfl⟩

/-- Settles O49: write after write, an observer sees the program. -/
theorem observerSeesExactlyTheWrites : Obligations.ObserverSeesExactlyTheWrites := by
  intro program s o hv hu hidle hhost hnr
  obtain ⟨o', hrun, hwrites⟩ := observedTicks_of_program hv hu hidle hhost hnr o
  obtain ⟨hu', hidle'⟩ := State.afterWrites_rest hu hidle program
  exact ⟨_, o', hrun, hwrites, rfl, hu', hidle', rfl⟩

/-! ### A program from reset -/

/-- R194: a program that configures the clock and then writes; the tick of the configuration shows an observer nothing. -/
theorem observedTicks_of_configuredProgram {program : List (Byte × Byte)} {s : State} (hv : s.cfg.Valid)
    (hu : s.bt.upc = 0) (hidle : s.bt.ctl = 0b00#2) (hmode : s.cg.mode = .off)
    (hhost : s.host = hostOf (configureClockWord :: writeWords program)) (hnr : s.NoReset) (o : Observer) :
    ∃ o', observedTicks (1 + program.length * s.cfg.writeLatency) s o =
        some ((s.afterConfigure (hostOf (writeWords program))).afterWrites program, o') ∧
      o'.writes = o.writes ++ program := by
  have hstep := step_of_firstConfigure hv (resetAsserted_of_noResetFor (noResetFor_of_noReset 1 hnr)) hu hmode hhost
  have hunseen : o.observe s (s.afterConfigure (hostOf (writeWords program))) = some o :=
    o.observe_of_idle (validCodes_of_valid hv) hidle hidle
  obtain ⟨o', hrun, hwrites⟩ := observedTicks_of_program (s := s.afterConfigure (hostOf (writeWords program))) hv hu hidle
    rfl (fun level hl => hnr level (List.mem_of_mem_tail hl)) o
  refine ⟨o', ?_, hwrites⟩
  rw [Nat.add_comm]
  exact (observedTicks_succ _ hstep hunseen).trans hrun

/-- Settles O50: the run from the reset state; the clock runs on from its configuration during the writes. -/
theorem configuredProgramFromResetIsObserved : Obligations.ConfiguredProgramFromResetIsObserved := by
  intro c program hv
  obtain ⟨o, hrun, hwrites⟩ := observedTicks_of_configuredProgram (program := program)
    (s := (State.resetOf c).loadProgram (configureClockWord :: writeWords program)) hv rfl rfl rfl rfl nofun
    Observer.initial
  obtain ⟨hrest, -⟩ := State.afterWrites_rest (program := program)
    (s := ((State.resetOf c).loadProgram (configureClockWord :: writeWords program)).afterConfigure
      (hostOf (writeWords program))) rfl rfl
  refine ⟨_, o, hrun, ⟨⟨hrest, nofun⟩, rfl⟩, hwrites, fun w hw => ?last, ?clock⟩
  case last =>
    simp only [State.dataPins, State.afterWrites, hw]
    exact ⟨rfl, rfl, rfl⟩
  case clock =>
    refine (iterate_tick_configure hv ClockGenerator.reset _).trans ?_
    rw [show ClockGenerator.reset.clkQ = false from rfl, Bool.false_xor]
    rfl

/-! ### The end of a run -/

/-- R209: a run is not over while a command waits. -/
theorem not_runOver_of_present {s : State} {w : CommandWord} {later : List HostMove} (h : s.host = .present w :: later) :
    ¬ s.RunOver := by
  rintro ⟨-, hmoves⟩
  have := hmoves (.present w) (by simp [h])
  cases this

/-- Settles O51, by induction on the program: before its first acceptance a command waits, during its first write the
sequencer is busy, and later the later writes are not over. -/
theorem programRunEndsNotEarlier : Obligations.ProgramRunEndsNotEarlier := by
  intro program
  induction program with
  | nil =>
    intro s m _ _ _ _ hm
    rw [List.length_nil, Nat.zero_mul] at hm
    cases hm
  | cons w later ih =>
    intro s m hv hu hhost hnr hm
    rcases Nat.lt_or_ge m s.cfg.writeLatency with hfirst | hlater
    · cases m with
      | zero => exact ⟨s, rfl, not_runOver_of_present hhost⟩
      | succ n =>
        obtain ⟨hstage, htogo⟩ := stage_of_write s.cfg s.bt w.1 w.2 hfirst.le
        refine ⟨_, ticks_of_write hv hu hhost hfirst.le (noResetFor_of_noReset _ hnr), fun ⟨hrest, _⟩ => ?_⟩
        exact absurd ((upc_eq_zero_iff_ticksToRest hstage.inRange).mp hrest) (by omega)
    · obtain ⟨n, rfl⟩ := Nat.exists_eq_add_of_le hlater
      have hwrite := completedWriteLeavesStatedState s w.1 w.2 _ hv hu hhost (noResetFor_of_noReset _ hnr)
      rw [List.length_cons, Nat.succ_mul] at hm
      obtain ⟨t, ht, hover⟩ := ih (s.afterWrite w.1 w.2 (hostOf (writeWords later))) n hv rfl
        (iterate_holdMoves_hostOf _ _) (noReset_afterWrite hnr _ _ _) (by show n < later.length * s.cfg.writeLatency; omega)
      exact ⟨t, (ticks_add n hwrite).trans ht, hover⟩

end Sys2Proof.Machine
end

section
/-!
PROOFS. The host protocol (70_reset_and_hazards.md section 5): how a tick shortens the words the host has still to send (R208), and
that a host which keeps the protocol never has the mark set (R42, R210).
-/

namespace Sys2Proof.Machine

open Host

/-! ### The host's words -/

/-- R208: a presented word is the host's next move. -/
theorem host_of_presented {s : State} {w : CommandWord} (h : s.presented = some w) :
    ∃ later, s.host = .present w :: later := by
  unfold State.presented at h
  cases hhost : s.host with
  | nil => rw [hhost] at h; cases h
  | cons move later =>
    rw [hhost] at h
    cases move with
    | present word =>
      obtain rfl := Option.some.inj h
      exact ⟨later, rfl⟩
    | rest => cases h

/-- R208: the port that is offered nothing takes no word. -/
theorem words_takeMove_of_silent {s : State} (h : s.presented = none) :
    (takeMove s.host).filterMap HostMove.word? = s.commandsToCome := by
  unfold State.presented at h
  unfold State.commandsToCome
  cases hhost : s.host with
  | nil => rfl
  | cons move later =>
    rw [hhost] at h
    cases move with
    | present word => cases h
    | rest => rfl

/-- R157, R208: a tick without reset leaves the words to come, selecting no command, or it takes the first of them at rest. -/
theorem step_commandsToCome {s t : State} (h : step s = .next t) (hr : s.resetAsserted = false) :
    (t.commandsToCome = s.commandsToCome ∧ ∃ u, s.fetch = .ok (microOperation u)) ∨
      (∃ w, s.bt.upc = 0 ∧ s.commandsToCome = w :: t.commandsToCome ∧ s.fetch = decodeCmd17 w) := by
  have hhost : t.commandsToCome = s.hostAfter.filterMap HostMove.word? := by
    rw [State.commandsToCome, step_host h hr]
  obtain ⟨hu, hf⟩ | ⟨hu, hsilent, hf⟩ | ⟨hu, w, hpresented, hf⟩ := fetch_cases s
  · refine .inl ⟨?_, _, hf⟩
    rw [hhost, State.hostAfter_of_busy hu, words_holdMoves, State.commandsToCome]
  · refine .inl ⟨?_, 0, hf⟩
    rw [hhost, State.hostAfter_of_rest hu, words_takeMove_of_silent hsilent]
  · obtain ⟨later, hmoves⟩ := host_of_presented hpresented
    refine .inr ⟨w, hu, ?_, hf⟩
    rw [hhost, State.hostAfter_of_rest hu, State.commandsToCome, hmoves]
    rfl

/-- R208: the first word of a host that sends the two commands only, and the words behind it. -/
theorem commands_of_sendsCommandsOnly {s t : State} {w : CommandWord} (hwords : s.commandsToCome = w :: t.commandsToCome)
    (hc : s.SendsCommandsOnly) : (CommandWord.op w = true ∨ w = configureClockWord) ∧ t.SendsCommandsOnly := by
  rwa [State.SendsCommandsOnly, hwords, List.all_cons, Bool.and_eq_true_iff, Bool.or_eq_true_iff, decide_eq_true_iff] at hc

/-! ### A tick of a host that keeps the protocol -/

theorem resetAsserted_of_noReset {s : State} (h : s.NoReset) : s.resetAsserted = false :=
  resetAsserted_of_noResetFor (noResetFor_of_noReset 1 h)

/-- R42: the mark stays where no second configuration and no reserved word is taken. -/
theorem step_refused_eq {s t : State} (h : step s = .next t) (hr : s.resetAsserted = false)
    (hsecond : ¬ (s.fetch = .ok .configureClock ∧ s.cg.mode = .toggleOnMatch))
    (hreserved : s.fetch ≠ .error .reservedCommandWord) : t.refused = s.refused :=
  Bool.eq_iff_iff.mpr <| (refusedMarkHasTwoCauses s t h hr).trans
    ⟨fun hcause => hcause.resolve_right (not_or.mpr ⟨hsecond, hreserved⟩), .inl⟩

/-- R208: a tick that takes no word keeps the protocol and the mark. -/
theorem step_protocol_of_no_word {s t : State} (h : step s = .next t) (hp : s.HostProtocol)
    (hwords : t.commandsToCome = s.commandsToCome) {u : MicroIndex} (hf : s.fetch = .ok (microOperation u)) :
    t.refused = s.refused ∧ t.ConfiguresAtMostOnce ∧ t.ConfiguresBeforeWrites := by
  obtain ⟨honce, ⟨horder, hlate⟩, hnr⟩ := hp
  have hr := resetAsserted_of_noReset hnr
  have hnc : s.fetch ≠ .ok .configureClock := fun hcc =>
    microOperation_ne_configureClock u (Except.ok.inj (hf.symm.trans hcc))
  have hcg : t.cg = s.cg.tick s.cfg := by
    obtain ⟨hcc, -⟩ | ⟨-, hcg⟩ := step_cg h hr
    · exact absurd hcc hnc
    · exact hcg
  have hconfigured : t.configured = s.configured := by
    rw [State.configured, State.configured, hcg, ClockGenerator.tick_mode]
  have hbusy : t.bt.upc ≠ 0 ∨ t.bt.busDir = .driver → s.bt.upc ≠ 0 ∨ s.bt.busDir = .driver := by
    intro hactive
    by_cases hu : s.bt.upc = 0
    · have hnw : ∀ a v, s.fetch ≠ .ok (.writeRegister a v) := fun a v hw =>
        microOperation_ne_writeRegister u a v (Except.ok.inj (hf.symm.trans hw))
      rwa [step_bt_of_rest h hr hu hnw] at hactive
    · exact .inl hu
  refine ⟨step_refused_eq h hr (fun hcc => hnc hcc.1) (by simp [hf]), ?once, ?order, ?late⟩
  case once => rw [State.ConfiguresAtMostOnce, hwords, hconfigured]; exact honce
  case order => rw [hwords]; exact horder
  case late => rw [hwords]; exact fun hactive => hlate (hbusy hactive)

/-- R208: of a host that keeps the protocol, the tick that takes a word leaves the mark and no configuration to come. -/
theorem step_protocol_of_word {s t : State} (h : step s = .next t) (hp : s.HostProtocol) (hc : s.SendsCommandsOnly)
    {w : CommandWord} (hwords : s.commandsToCome = w :: t.commandsToCome) (hf : s.fetch = decodeCmd17 w) :
    t.refused = s.refused ∧ configureClockWord ∉ t.commandsToCome := by
  obtain ⟨honce, ⟨horder, -⟩, hnr⟩ := hp
  have hr := resetAsserted_of_noReset hnr
  rw [State.ConfiguresAtMostOnce, hwords] at honce
  rw [hwords, List.pairwise_cons] at horder
  obtain hop | rfl := (commands_of_sendsCommandsOnly hwords hc).1
  · have hf : s.fetch = .ok (.writeRegister (CommandWord.address w) (CommandWord.value w)) :=
      hf.trans (if_pos hop)
    refine ⟨step_refused_eq h hr (by simp [hf]) (by simp [hf]), fun hmem => ?_⟩
    have := horder.1 _ hmem rfl
    rw [hop] at this
    cases this
  · rw [List.count_cons_self] at honce
    have hf := hf.trans decodeCmd17_configureClockWord
    have hoff : ¬ s.configured = true := fun hon => by
      rw [if_pos hon] at honce
      omega
    refine ⟨step_refused_eq h hr (fun hsecond => hoff (State.configured_iff.mpr hsecond.2)) (by simp [hf]), ?_⟩
    exact List.count_eq_zero.mp (by omega)

/-- R208: with no configuration to come the two clauses on it hold. -/
theorem configures_of_not_mem {s : State} (h : configureClockWord ∉ s.commandsToCome) :
    s.ConfiguresAtMostOnce ∧ s.ConfiguresBeforeWrites := by
  refine ⟨?once, ?order, fun _ => h⟩
  case once =>
    rw [State.ConfiguresAtMostOnce, List.count_eq_zero.mpr h]
    split <;> decide
  case order => exact List.pairwise_of_forall_mem_list fun _ _ later hlater hcc => absurd (hcc ▸ hlater) h

/-- R208, R210: a tick keeps the protocol and the mark. -/
theorem step_keeps_protocol {s t : State} (h : step s = .next t) (hp : s.HostProtocol) (hc : s.SendsCommandsOnly) :
    t.refused = s.refused ∧ t.HostProtocol ∧ t.SendsCommandsOnly := by
  have hnr : t.NoReset := fun level hl => hp.2.2 level (List.mem_of_mem_tail (step_resetLine h ▸ hl))
  obtain ⟨hwords, u, hf⟩ | ⟨w, -, hwords, hf⟩ := step_commandsToCome h (resetAsserted_of_noReset hp.2.2)
  · obtain ⟨hmark, honce, hbefore⟩ := step_protocol_of_no_word h hp hwords hf
    exact ⟨hmark, ⟨honce, hbefore, hnr⟩, by rw [State.SendsCommandsOnly, hwords]; exact hc⟩
  · obtain ⟨hmark, hnone⟩ := step_protocol_of_word h hp hc hwords hf
    obtain ⟨honce, hbefore⟩ := configures_of_not_mem hnone
    exact ⟨hmark, ⟨honce, hbefore, hnr⟩, (commands_of_sendsCommandsOnly hwords hc).2⟩

/-! ### A host from reset -/

/-- R210: a program with the clock first is one configuration and then other words. -/
theorem clockFirst_iff {program : List CommandWord} :
    clockFirst program = true ↔ ∃ later, program = configureClockWord :: later ∧ configureClockWord ∉ later := by
  cases program with
  | nil => simp [clockFirst]
  | cons w later =>
    simp only [clockFirst, Bool.and_eq_true_iff, decide_eq_true_iff, List.all_eq_true, List.cons.injEq]
    constructor
    · rintro ⟨rfl, hall⟩
      exact ⟨later, ⟨rfl, rfl⟩, fun hmem => hall _ hmem rfl⟩
    · rintro ⟨_, ⟨rfl, rfl⟩, hnone⟩
      exact ⟨rfl, fun w hmem hw => hnone (hw ▸ hmem)⟩

/-- R208: the host of a program with the clock first, on a machine in reset, keeps the protocol. -/
theorem hostProtocol_of_clockFirst (c : Config) {program : List CommandWord} (h : clockFirst program = true) :
    ((State.resetOf c).loadProgram program).HostProtocol := by
  obtain ⟨later, rfl, hnone⟩ := clockFirst_iff.mp h
  refine ⟨?once, ⟨?order, ?late⟩, nofun⟩
  case once =>
    rw [State.ConfiguresAtMostOnce, commandsToCome_loadProgram, List.count_cons_self, List.count_eq_zero.mpr hnone]
    exact le_rfl
  case order =>
    rw [commandsToCome_loadProgram, List.pairwise_cons]
    exact ⟨fun _ _ _ => by decide, List.pairwise_of_forall_mem_list fun _ _ w hw hcc => absurd (hcc ▸ hw) hnone⟩
  case late =>
    rintro (hbusy | hdriver)
    · exact absurd rfl hbusy
    · cases hdriver

/-- Settles O55: by induction on the number of ticks, and the host of a clock-first program. -/
theorem hostProtocolNeverSetsMark : Obligations.HostProtocolNeverSetsMark := by
  refine ⟨fun n => ?run, fun c program => hostProtocol_of_clockFirst c⟩
  induction n with
  | zero => exact fun s _ hp hc => ⟨s, rfl, rfl, hp, hc⟩
  | succ n ih =>
    intro s hv hp hc
    obtain ⟨r, hr⟩ := exists_step_of_valid hv
    obtain ⟨hmark, hp', hc'⟩ := step_keeps_protocol hr hp hc
    obtain ⟨t, ht, hmark', hend⟩ := ih r (by rw [step_cfg hr]; exact hv) hp' hc'
    exact ⟨t, (ticks_succ_of_step n hr).trans ht, hmark'.trans hmark, hend⟩

end Sys2Proof.Machine
end
